-- ==== Sys2Proof/Word.lean ====
section
/-! DEFINITION. The one word type of the model: the byte, where the manual treats it as bits (the CRC of R154).
Every other figure of the manual is a count, a volume, a time or a number with a range, and is a natural number. -/

namespace Sys2Proof

/-- A byte seen as eight bits. Bytes carried in payloads and memory blocks are natural numbers below 256. -/
abbrev Byte := BitVec 8

end Sys2Proof
end

