-- ==== Sys2Proof/Config.lean ====
section
/-! DEFINITION. What an installation fixes (the configured values of R47, R71, R82, R104, R120, R135, R160 and of
chapter 2), the fixed numbers of the manual, and the value the manual leaves open. -/

namespace Sys2Proof

/-- The extra wait after a collision is "a count of 0..31 bit times taken from the part's free-running timer at the
collision" (R157 case 2). The timer's phase is stated nowhere, so the count is a free value: nothing constrains it
but its range, and the n-th collision takes the n-th value (DESIGN CHOICE, log entry 7). -/
opaque Config.freeExtraWait : Nat → BitVec 5

/-- The values a block takes at power-on from the configuration image, in the units of 00 section 1.5:
temperatures in 0.1 °C, the tilt limit in 0.5° steps, times in seconds unless said otherwise. -/
structure Configuration where
  meterK : Nat            -- 1/64 mL per pulse (R27)
  fillTimeout : Nat       -- s (R31)
  afterRun : Nat          -- s (R37)
  drainLimit : Nat        -- s (R38)
  t1 : Nat                -- turbidity thresholds (R42)
  t2 : Nat
  t3 : Nat
  circDraws : List Nat    -- W, levels 1..8 (R33)
  goff : Nat              -- R47
  kh : Nat
  hfb : Nat
  hardnessTarget : Nat
  bedCapacity : Nat
  reserve : Nat
  weakPercent : Nat
  brineVolume : Nat       -- mL (R71)
  displaceVolume : Nat
  flushVolume : Nat
  stepLimit : Nat         -- s
  dBase : Nat             -- R82
  dHard : Nat
  dMin : Nat
  dMax : Nat
  detStroke : Nat
  rBase : Nat
  closedFactor : Nat
  rinStroke : Nat
  detCapacity : Nat
  rinCapacity : Nat
  detLow : Nat
  rinLow : Nat
  primingStrokes : Nat
  siteLimit : Nat         -- W (R104)
  floor : Nat
  refreshPeriod : Nat     -- s
  ownRank : Nat
  baseDraw : Nat
  drainDraw : Nat
  actuatorDraw : Nat
  detDraw : Nat
  rinDraw : Nat
  heater1Draw : Nat
  heater2Draw : Nat
  fanDraw : Nat
  stageBand : Nat         -- 0.1 °C (R120)
  hysteresis : Nat
  elementLimit : Nat      -- min
  supplyLimit : Nat       -- min
  closedOffset : Nat      -- 0.1 °C
  openTemp : Nat          -- 0.1 °C (R135)
  travelLimit : Nat
  motionValidity : Nat
  motionLevelLimit : Nat
  tiltLimit : Nat         -- 0.5° steps
  settleTime : Nat
  reopenLimit : Nat
  closeAfterVent : Bool
  noMotionStation : Bool
  defaultWantOpen : Bool
  defaultCondense : Nat
  defaultVent : Nat
  ownGroup : Nat          -- R160
  groupMask : Nat
  deriving DecidableEq, Repr

/-- The vendor's standard settings: the default of every configured value. -/
def Configuration.standard : Configuration where
  meterK := 64
  fillTimeout := 420
  afterRun := 10
  drainLimit := 120
  t1 := 150
  t2 := 380
  t3 := 640
  circDraws := [30, 45, 60, 80, 100, 125, 150, 180]
  goff := 90
  kh := 504
  hfb := 250
  hardnessTarget := 60
  bedCapacity := 180000
  reserve := 15000
  weakPercent := 50
  brineVolume := 400
  displaceVolume := 600
  flushVolume := 1200
  stepLimit := 600
  dBase := 350
  dHard := 120
  dMin := 80
  dMax := 400
  detStroke := 25
  rBase := 80
  closedFactor := 150
  rinStroke := 10
  detCapacity := 60000
  rinCapacity := 40000
  detLow := 6000
  rinLow := 4000
  primingStrokes := 6
  siteLimit := 3500
  floor := 300
  refreshPeriod := 2
  ownRank := 4
  baseDraw := 12
  drainDraw := 40
  actuatorDraw := 12
  detDraw := 8
  rinDraw := 8
  heater1Draw := 1000
  heater2Draw := 2000
  fanDraw := 15
  stageBand := 50
  hysteresis := 20
  elementLimit := 40
  supplyLimit := 45
  closedOffset := 40
  openTemp := 550
  travelLimit := 6
  motionValidity := 30
  motionLevelLimit := 1
  tiltLimit := 10
  settleTime := 60
  reopenLimit := 2
  closeAfterVent := true
  noMotionStation := false
  defaultWantOpen := true
  defaultCondense := 600
  defaultVent := 1800
  ownGroup := 64
  groupMask := 0

end Sys2Proof
end

