-- ==== Sys2Proof/Syntax.lean ====
section
/-! DEFINITION. The commands of the part, one constructor for each row of the table of operations and events
(spec/opcode_table.json), and the types of their operands. An order command is OH's decoding of that order (R165); a
frame command is the end of a good received frame (R155, R160); every other command is the event its row names. -/

namespace Sys2Proof

/-- A good frame as LI hands it on (R154): class and source of byte 0, destination byte 1, kind byte 2, payload. -/
structure Frame where
  cls : Nat
  src : Nat
  dst : Nat
  kind : Nat
  payload : List Nat
  deriving DecidableEq, Repr

/-- The drying part of a phase record as sent (R155 tables, section 9.3, bytes 10 to 14). -/
structure RawDrying where
  condense : Nat
  vent : Nat
  doorOpen : Nat
  deriving DecidableEq, Repr

/-- A phase record as a LOAD PHASES order carries it (section 9.3), before the clamping of R1. -/
structure RawPhase where
  kind : Nat
  fill : Nat
  temp : Nat
  hold : Nat
  level : Nat
  pattern : Nat
  dose : Nat
  soil : Bool
  regen : Bool
  ext : Bool
  drying : Option RawDrying
  deriving DecidableEq, Repr

/-- The two bulk reservoirs (chapter 5). -/
inductive Reservoir where
  | detergent
  | rinseAid
  deriving DecidableEq, Repr

/-- A reading of the diverter position switch DIVP (R35). -/
inductive DivPos where
  | upper
  | both
  | lower
  | between
  deriving DecidableEq, Repr

/-- The serial memory's two blocks, byte by byte (section 11.2). -/
structure SerialMemory where
  config : List Nat
  record : List Nat
  deriving DecidableEq, Repr

/-- The levels of the input pins that a rule reads directly (section 1.7). The world outside sets them (DESIGN CHOICE,
log entry 6). `lvl0` to `lvl2`, `latch`, `ajar`, `home`, `gap`, `leak` are true when the switch is closed; `salt` when
the salt-low switch reads low; `otc` when the overtemperature cut is reported. `temp`, `cond`, `turb` are converted
values. -/
structure Pins where
  lvl0 : Bool
  lvl1 : Bool
  lvl2 : Bool
  latch : Bool
  ajar : Bool
  home : Bool
  gap : Bool
  leak : Bool
  otc : Bool
  salt : Bool
  divp : DivPos
  temp : Int
  cond : Nat
  turb : Nat
  deriving DecidableEq, Repr

/-- The commands, in the order of spec/opcode_table.json. -/
inductive Instr where
  | powerOn (pins : Pins) (straps : Nat) (chip : Option SerialMemory)
  | readyQuery (src tag : Nat)
  | statusQuery (src tag : Nat)
  | loadPhases (src tag start : Nat) (recs : List RawPhase)
  | start (src tag : Nat)
  | pause (src tag : Nat)
  | resume (src tag : Nat)
  | abort (src tag : Nat)
  | amend (src tag target field value : Nat)
  | holdAmendments (src tag : Nat)
  | releaseAmendments (src tag : Nat)
  | readReport (src tag start part : Nat)
  | sense (src tag : Nat)
  | reservoirFilled (src tag reservoir : Nat)
  | forceRegeneration (src tag : Nat)
  | serviceTest (src tag : Nat)
  | deviceReset (src tag : Nat)
  | unknownOrder (frame : Frame)
  | receivedLoadNotice (src dst : Nat) (payload : List Nat)
  | receivedClaim (src dst : Nat) (payload : List Nat)
  | shed (src dst : Nat) (payload : List Nat)
  | shedEnd (src dst : Nat) (payload : List Nat)
  | motionNotice (src dst : Nat) (payload : List Nat)
  | tankNotice (src dst : Nat) (payload : List Nat)
  | orderAccepted (frame : Frame)
  | receivedAnswerOrCompletion (frame : Frame)
  | frameVoid
  | sendAttempt
  | arbitrationLost
  | collision
  | ownFrameEnd (ack : Bool)
  | lineResetCondition
  | refreshTick
  | entryAgedOut (station : Nat)
  | viewOverflowEnd
  | settleEnd
  | stationConflictEnd
  | deferralTimerExpiry
  | shedHoldExpiry
  | flowPulse (cond : Nat)
  | fillTimeout
  | noFlowTimeout
  | sampleReading (cond : Nat)
  | sampleEnd
  | levelReadingChange (lvl0 lvl1 lvl2 : Bool)
  | circulationPeriodEnd
  | diverterMoveConfirmed (pos : DivPos)
  | diverterMoveTimeout
  | alternateTimer
  | turbidityReading (raw : Nat)
  | holdTimerEnd
  | drainAfterRunEnd
  | drainLimit
  | leakLatchSet
  | serviceItemEnd
  | serviceGrantTimeout
  | stepLimitReached
  | strokeConfirmed (res : Reservoir)
  | strokeTimeout
  | strokeRestEnd
  | lowSwitchDebounced (res : Reservoir) (low : Bool)
  | temperatureReading (temp : Int)
  | sensorFault
  | otcCut
  | elementOnLimit
  | supplyWaitLimit
  | doorReadingChange (latch ajar : Bool)
  | motionValidityLapse (station : Nat)
  | condenseEnd
  | lrelDelayEnd
  | armGapRead
  | armHomeRead
  | armTravelLimit (home : Bool)
  | settleTimerEnd
  | ventTimerEnd
  | recordWriteComplete
  | recordWriteFailed
  | lineReleased
  | goodFrameNotAccepted (frame : Frame)
  deriving DecidableEq, Repr

end Sys2Proof
end

