-- ==== Sys2Proof/Machine/State.lean ====
section
/-! DEFINITION. The state of the part, block by block (section 1.3), as plain data, its stop reasons, and the state
after reset. Times kept by a timer are counted in ticks of 0.25 s (DESIGN CHOICE, log entry 3); every other figure has
the unit of section 1.5. A field marked "the model's own" is not in the manual: a log entry says why it is there. -/

namespace Sys2Proof.Machine

/-! ## Sense (R169) -/

/-- The named conditions of R169's table of keys and codes. `clear` is key NONE, code 0. A name is prefixed where the
manual uses one name under two keys: nr NOT READY, cf CONFLICT, hw HARDWARE. -/
inductive Cause where
  | clear
  | nrRecovery | nrLeak | nrOvertemperature | doorNotLatched | tankReserve | tubNotEmpty | unconfigured
  | notOwner | badKind | badField | badIndex | dryNotLast | afterDry | phasePassed | setFull | endOfReport | badLength
  | cycleActive | noList | cfRegenerating | cfService | notRunning | cfDrying | noCycle | cfRecovery | listLoaded
  | fillSlow | noFlow | drainSlow | hwLeak | hwDiverter | temperatureSensor | hwOvertemperature | hwHeater
  | noCirculation | dosePump | doorStall | regenerationSlow | hwService | cellFault
  | noHeadroom | stationConflict
  | saltLow | detergentLow | rinseAidLow
  | abortOrder | doorOpened
  | amendmentVoid
  deriving DecidableEq, Repr

/-- A sense: a key and code (as one cause) and a qualifier, 255 when there is none. -/
structure Sense where
  cause : Cause
  qual : Nat
  deriving DecidableEq, Repr

/-! ## Cycle Sequencer (chapter 1) -/

inductive PhaseKind where
  | prewash | mainwash | rinse | finalrinse | dry
  deriving DecidableEq, Repr

inductive SprayPattern where
  | upper | lower | both | alternate
  deriving DecidableEq, Repr

/-- The dose field of a phase record (R1). -/
inductive DoseSel where
  | noDose | detergent | rinseAid
  deriving DecidableEq, Repr

/-- The drying part of a stored DRY record (R1). -/
structure DryingPart where
  condense : Nat
  vent : Nat
  wantOpen : Bool
  deriving DecidableEq, Repr

/-- A stored phase record (R1): fill in mL, temperature in 0.1 °C, hold in s. -/
structure PhaseRecord where
  kind : PhaseKind
  fill : Nat
  temp : Nat
  hold : Nat
  level : Nat
  pattern : SprayPattern
  dose : DoseSel
  soil : Bool
  regen : Bool
  ext : Bool
  drying : Option DryingPart
  deriving DecidableEq, Repr

inductive CycleState where
  | empty | loaded | running | paused | aborting | ended | recovery | service
  deriving DecidableEq, Repr

inductive Stage where
  | idle | entry | fill | heat | hold | drain | regen | exit | drying
  deriving DecidableEq, Repr

/-- A drying plan; `unset` is the manual's "none" (R9). -/
inductive DryPlan where
  | unset | openDry | closedDry
  deriving DecidableEq, Repr

/-- The outcome of a cycle; `unset` is NONE (R9). -/
inductive CycleOutcome where
  | unset | done | doneWithConditions | aborted | faulted
  deriving DecidableEq, Repr

/-- The pause reasons present (R18 to R21). -/
structure PauseSet where
  userDoor : Bool
  order : Bool
  supply : Bool
  deriving DecidableEq, Repr

/-- The last fill record of the cycle context (R9, R30, R58). -/
structure FillRecord where
  target : Nat
  actual : Nat
  bypass : Nat
  soft : Nat
  hardThrough : Nat
  hin : Nat
  heff : Nat
  deriving DecidableEq, Repr

/-- The cycle context (R9). -/
structure CycleContext where
  phase : Nat
  stage : Stage
  pauses : PauseSet
  soilClass : Nat
  fill : FillRecord
  provisional : DryPlan
  final : DryPlan
  inserted : Nat
  regenDone : Bool
  regenWanted : Bool
  firstCondition : Option Sense
  outcome : CycleOutcome
  firstFault : Option Sense
  owner : Option Nat
  startTag : Nat
  serviceReturn : CycleState
  deriving DecidableEq, Repr

/-- The fields an AMEND may change (section 1.7). -/
inductive AmendField where
  | temperature | hold | fill | level | dose
  deriving DecidableEq, Repr

inductive Mark where
  | onTime | late
  deriving DecidableEq, Repr

/-- An entry of the amendment set (section 1.7). A group member carries no mark. -/
structure AmendEntry where
  target : Nat
  field : AmendField
  value : Nat
  mark : Option Mark
  group : Option Nat
  tag : Nat
  deriving DecidableEq, Repr

inductive GroupState where
  | opened | releasedOnTime | releasedLate
  deriving DecidableEq, Repr

/-- An amendment group: its number, its state, and the tag of the order that released it (0 while OPEN). -/
structure AmendGroup where
  num : Nat
  state : GroupState
  tag : Nat
  deriving DecidableEq, Repr

/-- How far the final drain of a wind-down is (R22, R23). -/
inductive FinalDrain where
  | notStarted | running | ended
  deriving DecidableEq, Repr

/-- The Cycle Sequencer. `holdTimer` counts ticks. `holdStarted` is set when the hold timer has started (R5 case 3).
`drainHeld` and `fillHeld` are a DRAIN end and a FILL end whose advance waits for the pause set to become empty (R7,
R20). `finalDrain` and `doorMoving` are the two things a wind-down waits for (R23). -/
structure CsState where
  state : CycleState
  list : List PhaseRecord
  loadIndex : Nat
  ctx : CycleContext
  amendments : List AmendEntry
  groups : List AmendGroup
  groupCounter : Nat
  holdTimer : Nat
  holdStarted : Bool
  drainHeld : Bool
  fillHeld : Bool
  finalDrain : FinalDrain
  doorMoving : Bool
  deriving DecidableEq, Repr

/-! ## Hydraulics Controller (chapter 2) -/

inductive InletOwner where
  | free | fill | regen
  deriving DecidableEq, Repr

inductive Route where
  | bypass | soft
  deriving DecidableEq, Repr

/-- A level reading (R28). -/
inductive Level where
  | empty | low | normal | high
  deriving DecidableEq, Repr

/-- The fill state (R29). -/
inductive FillState where
  | idle | waiting | bypass | soft | topup | closed
  deriving DecidableEq, Repr

/-- Who asked for the drain that runs (R37). `nobody` is a lingering drain whose end nobody awaits. -/
inductive DrainFor where
  | nobody | cut | final | recovery
  deriving DecidableEq, Repr

/-- A service exercise in progress (R43 to R45). `item` is 1..8; `waiting` holds while the item waits for its load;
`timer` counts the running time and `wait` the wait for the grant; `moves` counts the confirmed moves of item 4,
`seeking` its first run to a starting position; `ran`, `failed`, `notRun` are the item marks, bit i−1 for item i. -/
structure Service where
  src : Nat
  tag : Nat
  item : Nat
  waiting : Bool
  timer : Nat
  wait : Nat
  moves : Nat
  seeking : Bool
  ran : Nat
  failed : Nat
  notRun : Nat
  deriving DecidableEq, Repr

/-- The Hydraulics Controller. `softFrom` is the pulse count at which the running SOFT segment began and `softDone`
the volume of the segments before it (R27). `switched` is set once the fill's one switch to SOFT has been decided
(R29 case 3, log entry 11). `drainEmpty` holds during the after-run, `drainEverEmpty` once EMPTY has been read (R37,
R38). `divWanted` is the position a running move goes to. `divBlocked` is R36 case 2's "no further moves". -/
structure HcState where
  level : Level
  owner : InletOwner
  route : Route
  pulses : Nat
  fillState : FillState
  fillTarget : Nat
  fillTimer : Nat
  noFlowTimer : Nat
  planAsked : Bool
  switched : Bool
  softFrom : Nat
  softDone : Nat
  drive : Nat
  buffer : Nat
  driveTimer : Nat
  divPos : DivPos
  divWanted : Option DivPos
  divTimer : Nat
  divBlocked : Bool
  pattern : Option SprayPattern
  altTimer : Nat
  drainOn : Bool
  drainFor : DrainFor
  drainEmpty : Bool
  drainEverEmpty : Bool
  drainLingering : Bool
  drainTimer : Nat
  afterTimer : Nat
  leakLatch : Bool
  circTime : Nat
  turbCount : Nat
  turbClass : Option Nat
  service : Option Service
  deriving DecidableEq, Repr

/-! ## Softener Unit (chapters 3 and 4) -/

inductive BedState where
  | ready | depleted | brining | rinsing | salted
  deriving DecidableEq, Repr

inductive Gate where
  | shut | requested | opened
  deriving DecidableEq, Repr

/-- A hardness sample in progress (R48): its readings, oldest first, and its open-valve time in ticks. -/
structure Sample where
  readings : List Nat
  openTime : Nat
  deriving DecidableEq, Repr

/-- The blend plan of the present fill (R51). -/
structure BlendPlan where
  vb : Nat
  vs : Nat
  a0 : Nat
  db : Nat
  deriving DecidableEq, Repr

inductive Placement where
  | inCycle | postCycle | standalone | recovery
  deriving DecidableEq, Repr

inductive SeqState where
  | held | brine | displace | flush | ended
  deriving DecidableEq, Repr

inductive StepPhase where
  | writeWait | inletWait | flowing | stopped
  deriving DecidableEq, Repr

/-- The regeneration record (R65). `full` is the form FULL; otherwise FLUSH ONLY. `hold` is the supply hold. -/
structure RegenRecord where
  placement : Placement
  full : Bool
  seq : SeqState
  phase : StepPhase
  vol : Nat
  time : Nat
  hold : Bool
  weak : Bool
  credit : Nat
  steps : Nat
  water : Nat
  originator : Nat
  tag : Nat
  deriving DecidableEq, Repr

/-- The Softener Unit. `hin` is the inlet hardness once formed (R49); `predicted` the predicted charge of the gate
(R53); `regenCount` the live count of full regenerations that the persistent record carries (R74). -/
structure SuState where
  account : Nat
  bed : BedState
  want : Bool
  rearm : Bool
  sample : Option Sample
  hin : Option Nat
  cellFault : Bool
  plan : Option BlendPlan
  gate : Gate
  predicted : Nat
  regen : Option RegenRecord
  regenerating : Bool
  regenCount : Nat
  deriving DecidableEq, Repr

/-! ## Dosing Unit (chapter 5) -/

/-- One reservoir's state (R83); `low` is the debounced switch reading, `held` a refill waiting for a dose (R96). -/
structure Tank where
  account : Nat
  known : Bool
  exhausted : Bool
  primed : Bool
  low : Bool
  held : Bool
  deriving DecidableEq, Repr

inductive StrokePhase where
  | waiting | stroking | resting | stopped | ended
  deriving DecidableEq, Repr

/-- How a job ended (R94); `unset` is the manual's "none". -/
inductive DoseEnd where
  | unset | complete | cutLow | pumpFault | aborted
  deriving DecidableEq, Repr

/-- A dose job (R86). `aborting` is set when an ABORT or fault waits for the stroke in progress (R95); `timer` counts
the stroke or the rest. -/
structure DoseJob where
  res : Reservoir
  dose : Nat
  wanted : Nat
  priming : Nat
  confirmed : Nat
  unconfirmed : Nat
  phase : StrokePhase
  result : DoseEnd
  aborting : Bool
  timer : Nat
  deriving DecidableEq, Repr

/-- A stroke of the service exercise (R44 item 8): its pump, whether it runs, its timer. -/
structure ServiceStroke where
  res : Reservoir
  stroking : Bool
  timer : Nat
  deriving DecidableEq, Repr

structure DuState where
  det : Tank
  rin : Tank
  job : Option DoseJob
  svc : Option ServiceStroke
  deriving DecidableEq, Repr

/-! ## Temperature Controller (chapter 7) -/

/-- The Temperature Controller. `tub` is the last valid reading in 0.1 °C. `elementOn` and `supplyWait` are the two
timers of the present HEAT in ticks; `badRun` counts the readings outside the range without a break (R121); `peak`,
`waitTicks`, `stage1Ticks`, `stage2Ticks`, `under` are the phase figures of R133. `sensorReported` says that this
cycle has had its report of R121. -/
structure TcState where
  tub : Nat
  badRun : Nat
  faulted : Bool
  overtemp : Bool
  target : Nat
  setpoint : Nat
  wanted : Nat
  driven : Nat
  elementOn : Nat
  supplyWait : Nat
  regOn : Bool
  disabled : Bool
  sensorReported : Bool
  peak : Nat
  waitTicks : Nat
  stage1Ticks : Nat
  stage2Ticks : Nat
  under : Bool
  deriving DecidableEq, Repr

/-! ## Supply Account (chapter 6) -/

/-- A load part: the draw as sent and the shed rank, none when unknown (R100). -/
structure LoadPart where
  draw : Nat
  rank : Option Nat
  deriving DecidableEq, Repr

/-- A motion part: tilt in 0.5° steps, motion level, tick of reception; `valid` until its validity has run out
(R137). -/
structure MotionPart where
  tilt : Int
  level : Nat
  received : Nat
  valid : Bool
  deriving DecidableEq, Repr

/-- An entry of the peer view (R100); `tank` is the reserve flag of the tank part. -/
structure PeerEntry where
  station : Nat
  age : Nat
  heard : Bool
  stale : Bool
  load : Option LoadPart
  motion : Option MotionPart
  tank : Option Bool
  deriving DecidableEq, Repr

/-- The shed that holds (R115): its source, cap, and remaining hold time in ticks. -/
structure Shed where
  src : Nat
  cap : Nat
  hold : Nat
  deriving DecidableEq, Repr

/-- A request or a grant for each load but the base load (R107). -/
structure Loads where
  drain : Bool
  circ : Nat
  actuator : Bool
  det : Bool
  rin : Bool
  heater : Nat
  fan : Bool
  deriving DecidableEq, Repr

/-- The status of a load (R109). `idle` is a load that asks for nothing; `waitingRest` is WAITING for a part of its
shortfall and DEFERRED for the rest (R110 case 1). -/
inductive LoadStatus where
  | idle | granted | waiting | waitingRest | deferred
  deriving DecidableEq, Repr

structure Statuses where
  circ : LoadStatus
  actuator : LoadStatus
  det : LoadStatus
  rin : LoadStatus
  heater : LoadStatus
  fan : LoadStatus
  deriving DecidableEq, Repr

/-- The Supply Account. `announced` is A (R105). `served` and `allotted` are the serving limit and the allotment of
the last walk; `reask` asks the next walk to make a claim walk though nothing changed (R112); `mustAnnounce` asks it to
place a lowering notice whatever the size of the drop (R115, R117); `claimOwed` marks a claim walk put off while a
supply frame was on the line (R110). These five are the model's own. -/
structure SaState where
  view : List PeerEntry
  overflow : Nat
  settle : Nat
  refreshTimer : Nat
  announced : Nat
  shed : Option Shed
  requests : Loads
  grants : Loads
  statuses : Statuses
  deferral : Option Nat
  served : Nat
  allotted : Nat
  reask : Bool
  mustAnnounce : Bool
  claimOwed : Bool
  deriving DecidableEq, Repr

/-! ## Drying Controller (chapter 8) -/

inductive Door where
  | latched | ajar | opened
  deriving DecidableEq, Repr

inductive ArmState where
  | home | extending | atGap | retracting | stopped | stalled
  deriving DecidableEq, Repr

inductive DryStage where
  | condense | opening | vent | ventClosed | closing | ended
  deriving DecidableEq, Repr

inductive ClosingTo where
  | ventClosed | finish | windDown
  deriving DecidableEq, Repr

/-- The door outcome; `unset` is the manual's "none". -/
inductive DoorOutcome where
  | unset | latched | leftAjar | userOpened
  deriving DecidableEq, Repr

/-- The drying record (R139), times in s, timers in ticks. -/
structure DryRecord where
  condense : Nat
  vent : Nat
  wantOpen : Bool
  stage : DryStage
  condenseTimer : Nat
  ventTimer : Nat
  closingTo : ClosingTo
  eligible : Bool
  reopens : Nat
  stall : Bool
  outcome : DoorOutcome
  deriving DecidableEq, Repr

/-- What DC wants of its actuator: nothing, the 0.5 s of latch release, an extension, a closing retraction, or a
parking retraction (R141, R146, R150). -/
inductive ArmMove where
  | still | release | extend | close | park
  deriving DecidableEq, Repr

/-- The Drying Controller. `lrelOn` keeps the latch release energized alongside an extension (R141). `held` marks an
opening that waits for its grant (R136, R141), `closingStalled` a wind-down whose CLOSING has stalled (R149): these two
are the model's own. `travel`, `lrelTimer`, `settle` and `fanTicks` count ticks. -/
structure DcState where
  door : Door
  arm : ArmState
  permitted : Bool
  settle : Nat
  record : Option DryRecord
  leftAjar : Bool
  move : ArmMove
  held : Bool
  closingStalled : Bool
  lrelOn : Bool
  lrelTimer : Nat
  travel : Nat
  fanTicks : Nat
  deriving DecidableEq, Repr

/-! ## Line Interface (chapter 9) -/

inductive LineState where
  | busy | settling | idle | held
  deriving DecidableEq, Repr

/-- A frame for the supply slot: a CLAIM or a LOAD NOTICE with its figure (R162). -/
structure SupplyFrame where
  claim : Bool
  figure : Nat
  deriving DecidableEq, Repr

/-- What waits behind a supply frame that is on the line (R162). -/
inductive Follower where
  | nothing
  | frame (f : SupplyFrame)
  | withdrawal
  deriving DecidableEq, Repr

/-- Where the frame on the line was queued. -/
inductive Place where
  | supply | answer | completion
  deriving DecidableEq, Repr

inductive AnswerStatus where
  | good | check | reject
  deriving DecidableEq, Repr

/-- A queued ANSWER (R165). `reset` marks the answer a DEVICE RESET waits on (R172). -/
structure Answer where
  dst : Nat
  tag : Nat
  status : AnswerStatus
  sense : Sense
  results : List Nat
  reset : Bool
  deriving DecidableEq, Repr

inductive CompletionKind where
  | cycleEnd | regenerationEnd | serviceEnd | amendmentVoid | phaseInserted
  deriving DecidableEq, Repr

/-- A queued COMPLETION (R168). -/
structure Completion where
  dst : Nat
  tag : Nat
  kind : CompletionKind
  outcome : Nat
  sense : Sense
  data : List Nat
  deriving DecidableEq, Repr

/-- The Line Interface. `sending` is the place of the frame on the line; `extraWait` the bit times of the extra wait
that the next attempt owes (R157); `ackDriven` whether the acknowledge slot of the last good frame was driven
dominant (R160). -/
structure LiState where
  line : LineState
  own : Nat
  receive : List Frame
  slot : Option SupplyFrame
  follower : Follower
  answers : List Answer
  completions : List Completion
  sending : Option Place
  extraWait : Option Nat
  conflict : Nat
  ackDriven : Bool
  deriving DecidableEq, Repr

/-! ## Order Handler (chapter 10) -/

/-- A sense table entry (R169). -/
structure SenseEntry where
  station : Nat
  sense : Sense
  tag : Nat
  deriving DecidableEq, Repr

structure OhState where
  senseTable : List SenseEntry
  reportIndex : Nat
  reportPart : Nat
  deriving DecidableEq, Repr

/-! ## Record Port (chapter 11) -/

/-- The figures of the persistent record (section 11.2). -/
structure PersistentRecord where
  account : Nat
  bed : BedState
  det : Nat
  rin : Nat
  detKnown : Bool
  rinKnown : Bool
  detPrimed : Bool
  rinPrimed : Bool
  inProgress : Bool
  count : Nat
  deriving DecidableEq, Repr

/-- The write in flight: its figures, and whether it serves the write gate (R53) or a BRINE start (R72). -/
structure WriteJob where
  figures : PersistentRecord
  gate : Bool
  brine : Bool
  deriving DecidableEq, Repr

/-- The pending write: the cycle-in-progress value its requests named, if any, and whom it serves (R174). -/
structure PendingWrite where
  inProgress : Option Bool
  gate : Bool
  brine : Bool
  deriving DecidableEq, Repr

inductive RecoveryStep where
  | drain | flush | done
  deriving DecidableEq, Repr

/-- The figures of the running phase that its report entry will carry (R177), gathered from the blocks. -/
structure PhaseDraft where
  fill : FillRecord
  charged : Nat
  cellFault : Bool
  doseDelivered : Nat
  underdose : Bool
  finalPlan : DryPlan
  reopens : Nat
  doorOutcome : DoorOutcome
  fanSeconds : Nat
  elapsed : Nat
  deriving DecidableEq, Repr

/-- An entry of the cycle report (R177). A phase entry keeps all of TC's figures that R133 hands over, the seconds at
heater stage 1 and at stage 2 among them, which READ REPORT's bytes do not carry. -/
inductive ReportEntry where
  | phase (index : Nat) (kind : PhaseKind) (under : Bool) (d : PhaseDraft) (peak wait stage1 stage2 : Nat)
  | regeneration (placement : Placement) (steps water credit : Nat) (weak : Bool)
  | summary (outcome : CycleOutcome) (water energy dropped : Nat)
  deriving DecidableEq, Repr

/-- The Record Port. `energy` sums the granted draws in W times ticks and `water` the cycle's water in mL (R177). -/
structure RpState where
  configured : Bool
  cfg : Configuration
  image : PersistentRecord
  inFlight : Option WriteJob
  pendingWrite : Option PendingWrite
  recovery : Option RecoveryStep
  report : List ReportEntry
  dropped : Nat
  draft : PhaseDraft
  energy : Nat
  water : Nat
  deriving DecidableEq, Repr

/-! ## Outputs (section 1.7) -/

/-- The levels of the output pins: valves open, relays closed, motors on; `circ` is the driven circulation level. -/
structure Outputs where
  vin : Bool
  vrouteSoft : Bool
  vbrine : Bool
  vslow : Bool
  he1 : Bool
  he2 : Bool
  circ : Nat
  drain : Bool
  divm : Bool
  ddet : Bool
  drin : Bool
  lrel : Bool
  armx : Bool
  armr : Bool
  fan : Bool
  deriving DecidableEq, Repr

/-! ## The whole part -/

/-- The state. `pending` is the queue of commands, `now` the ticks since power-on, `freeCount` how many free values
have been taken, `pins` the input pins; these four are the model's own (DESIGN CHOICE, log entries 2, 3, 6, 7).
`memory` is what the serial memory holds. -/
structure State where
  pending : List Instr
  now : Nat
  freeCount : Nat
  pins : Pins
  memory : SerialMemory
  li : LiState
  oh : OhState
  cs : CsState
  hc : HcState
  su : SuState
  du : DuState
  tc : TcState
  sa : SaState
  dc : DcState
  rp : RpState
  out : Outputs
  deriving DecidableEq, Repr

/-- Why the machine stops with a fault: never. Every event of the table has an effect or no effect in every state, and
what the manual calls a fault is a report to CS (R23), which is a next state. Nothing raises this; safe. -/
inductive Fault where
  deriving DecidableEq

/-- Why a command is refused. -/
inductive Refusal where
  /-- A command whose meaning is not written yet; only exec's arms raise it, and none does now. Safe. -/
  | notModelled (mnemonic : String)
  deriving DecidableEq, Repr

/-! ## Reset values -/

/-- Every switch open, every converted value 0 (DESIGN CHOICE, log entry 6). -/
def Pins.atReset : Pins where
  lvl0 := false
  lvl1 := false
  lvl2 := false
  latch := false
  ajar := false
  home := false
  gap := false
  leak := false
  otc := false
  salt := false
  divp := .between
  temp := 0
  cond := 0
  turb := 0

def FillRecord.zero : FillRecord := ⟨0, 0, 0, 0, 0, 0, 0⟩

def PauseSet.empty : PauseSet := ⟨false, false, false⟩

/-- R25's power-on values of the cycle context, but for the regeneration want, which is copied from SU (R25, R9). -/
def CycleContext.atReset : CycleContext where
  phase := 0
  stage := .idle
  pauses := PauseSet.empty
  soilClass := 1
  fill := FillRecord.zero
  provisional := .unset
  final := .unset
  inserted := 0
  regenDone := false
  regenWanted := false
  firstCondition := none
  outcome := .unset
  firstFault := none
  owner := none
  startTag := 0
  serviceReturn := .empty

/-- R25. -/
def CsState.atReset : CsState where
  state := .empty
  list := []
  loadIndex := 0
  ctx := CycleContext.atReset
  amendments := []
  groups := []
  groupCounter := 1
  holdTimer := 0
  holdStarted := false
  drainHeld := false
  fillHeld := false
  finalDrain := .notStarted
  doorMoving := false

/-- R46; the level of a part with no switch closed, the diverter between its detents. -/
def HcState.atReset : HcState where
  level := .empty
  owner := .free
  route := .bypass
  pulses := 0
  fillState := .idle
  fillTarget := 0
  fillTimer := 0
  noFlowTimer := 0
  planAsked := false
  switched := false
  softFrom := 0
  softDone := 0
  drive := 0
  buffer := 0
  driveTimer := 0
  divPos := .between
  divWanted := none
  divTimer := 0
  divBlocked := false
  pattern := none
  altTimer := 0
  drainOn := false
  drainFor := .nobody
  drainEmpty := false
  drainEverEmpty := false
  drainLingering := false
  drainTimer := 0
  afterTimer := 0
  leakLatch := false
  circTime := 0
  turbCount := 0
  turbClass := none
  service := none

/-- R64 and R81 with the read-back of a bad check (R63 case 2): account 0, bed SALTED, want set (R62 case 2). -/
def SuState.atReset : SuState where
  account := 0
  bed := .salted
  want := true
  rearm := false
  sample := none
  hin := none
  cellFault := false
  plan := none
  gate := .shut
  predicted := 0
  regen := none
  regenerating := false
  regenCount := 0

/-- R97 case 2. -/
def Tank.atReset : Tank := ⟨0, false, false, false, false, false⟩

/-- R99. -/
def DuState.atReset : DuState := ⟨Tank.atReset, Tank.atReset, none, none⟩

/-- R134; the tub temperature before the first valid reading is 0.0 °C (DESIGN CHOICE, log entry 8). -/
def TcState.atReset : TcState where
  tub := 0
  badRun := 0
  faulted := false
  overtemp := false
  target := 0
  setpoint := 0
  wanted := 0
  driven := 0
  elementOn := 0
  supplyWait := 0
  regOn := false
  disabled := false
  sensorReported := false
  peak := 0
  waitTicks := 0
  stage1Ticks := 0
  stage2Ticks := 0
  under := false

def Loads.none : Loads := ⟨false, 0, false, false, false, 0, false⟩

def Statuses.idle : Statuses := ⟨.idle, .idle, .idle, .idle, .idle, .idle⟩

/-- R119, with F the default floor. -/
def SaState.atReset : SaState where
  view := []
  overflow := 0
  settle := 2
  refreshTimer := 0
  announced := Configuration.standard.floor
  shed := Option.none
  requests := Loads.none
  grants := Loads.none
  statuses := Statuses.idle
  deferral := Option.none
  served := Configuration.standard.floor
  allotted := Configuration.standard.floor
  reask := false
  mustAnnounce := false
  claimOwed := false

/-- R152, with every switch open: the door OPEN, the arm STOPPED. -/
def DcState.atReset : DcState where
  door := .opened
  arm := .stopped
  permitted := false
  settle := 0
  record := none
  leftAjar := false
  move := .still
  held := false
  closingStalled := false
  lrelOn := false
  lrelTimer := 0
  travel := 0
  fanTicks := 0

/-- R164; station number 0 until POWER_ON reads the straps. -/
def LiState.atReset : LiState where
  line := .settling
  own := 0
  receive := []
  slot := none
  follower := .nothing
  answers := []
  completions := []
  sending := none
  extraWait := none
  conflict := 0
  ackDriven := false

/-- R172. -/
def OhState.atReset : OhState := ⟨[], 0, 0⟩

/-- R173 step 3: the figures of a record whose check is bad. -/
def PersistentRecord.bad : PersistentRecord where
  account := 0
  bed := .salted
  det := 0
  rin := 0
  detKnown := false
  rinKnown := false
  detPrimed := false
  rinPrimed := false
  inProgress := true
  count := 0

def PhaseDraft.zero : PhaseDraft where
  fill := FillRecord.zero
  charged := 0
  cellFault := false
  doseDelivered := 0
  underdose := false
  finalPlan := .unset
  reopens := 0
  doorOutcome := .unset
  fanSeconds := 0
  elapsed := 0

/-- R173 before the configuration block is read: UNCONFIGURED, so the standard figures stand. -/
def RpState.atReset : RpState where
  configured := false
  cfg := Configuration.standard
  image := PersistentRecord.bad
  inFlight := none
  pendingWrite := none
  recovery := none
  report := []
  dropped := 0
  draft := PhaseDraft.zero
  energy := 0
  water := 0

/-- Every output off. -/
def Outputs.off : Outputs where
  vin := false
  vrouteSoft := false
  vbrine := false
  vslow := false
  he1 := false
  he2 := false
  circ := 0
  drain := false
  divm := false
  ddet := false
  drin := false
  lrel := false
  armx := false
  armr := false
  fan := false

/-- The part right after the application of power, before RP has read anything: every block at its power-on value
(R25, R46, R64, R81, R99, R119, R134, R152, R164, R172), UNCONFIGURED, with station number 0. The command POWER_ON
then reads straps, configuration and record (DESIGN CHOICE, log entries 1 and 2). -/
def State.reset : State where
  pending := []
  now := 0
  freeCount := 0
  pins := Pins.atReset
  memory := ⟨[], []⟩
  li := LiState.atReset
  oh := OhState.atReset
  cs := { CsState.atReset with ctx := { CycleContext.atReset with regenWanted := SuState.atReset.want } }
  hc := HcState.atReset
  su := SuState.atReset
  du := DuState.atReset
  tc := TcState.atReset
  sa := SaState.atReset
  dc := DcState.atReset
  rp := RpState.atReset
  out := Outputs.off

end Sys2Proof.Machine
end

