-- ==== Sys2Proof/Machine/Ops.lean ====
section
/-! DEFINITION. The operations every block shares: one update of each block of the state, the manual's roundings and
clampings (section 1.5), byte order and the CRC-8 (R154), the answer and completion queues and the sense table (R162,
R165, R168, R169), the record writes (R174), the cycle report (R177), and the conditions and wants that blocks report
to CS (R24, R62). -/

namespace Sys2Proof.Machine

/-! ## One update of each block -/

def State.onPins (s : State) (f : Pins → Pins) : State := { s with pins := f s.pins }
def State.onLi (s : State) (f : LiState → LiState) : State := { s with li := f s.li }
def State.onOh (s : State) (f : OhState → OhState) : State := { s with oh := f s.oh }
def State.onCs (s : State) (f : CsState → CsState) : State := { s with cs := f s.cs }
def State.onHc (s : State) (f : HcState → HcState) : State := { s with hc := f s.hc }
def State.onSu (s : State) (f : SuState → SuState) : State := { s with su := f s.su }
def State.onDu (s : State) (f : DuState → DuState) : State := { s with du := f s.du }
def State.onTc (s : State) (f : TcState → TcState) : State := { s with tc := f s.tc }
def State.onSa (s : State) (f : SaState → SaState) : State := { s with sa := f s.sa }
def State.onDc (s : State) (f : DcState → DcState) : State := { s with dc := f s.dc }
def State.onRp (s : State) (f : RpState → RpState) : State := { s with rp := f s.rp }
def State.withOut (s : State) (o : Outputs) : State := { s with out := o }
def State.withMemory (s : State) (m : SerialMemory) : State := { s with memory := m }
def State.withFreeCount (s : State) (n : Nat) : State := { s with freeCount := n }

/-- The cycle context alone. -/
def State.onCtx (s : State) (f : CycleContext → CycleContext) : State :=
  s.onCs fun c => { c with ctx := f c.ctx }

/-! ## Arithmetic of section 1.5 -/

/-- Ticks of 0.25 s in so many seconds. -/
def ticks (seconds : Nat) : Nat := 4 * seconds

/-- `n / d` rounded up. -/
def ceilDiv (n d : Nat) : Nat := (n + d - 1) / d

/-- `n / d` to the nearest whole number, a half going up. -/
def roundHalfUp (n d : Nat) : Nat := (2 * n + d) / (2 * d)

/-- `v` at the nearer end of `lo`..`hi` when outside it. -/
def clamp (lo hi v : Nat) : Nat := max lo (min hi v)

/-! ## Byte order and check (R154, section 11.2) -/

def be2 (n : Nat) : List Nat := [n / 256 % 256, n % 256]
def be3 (n : Nat) : List Nat := [n / 65536 % 256, n / 256 % 256, n % 256]

/-- A figure of one, two or three bytes, given as the largest value its bytes can hold when it is above it (R177). -/
def sat1 (n : Nat) : List Nat := [min n 255]
def sat2 (n : Nat) : List Nat := be2 (min n 65535)
def sat3 (n : Nat) : List Nat := be3 (min n 16777215)

/-- One bit of the CRC-8: shift left and, when a 1 was shifted out, take off x^8 + x^2 + x + 1. -/
def crcBit (c : Byte) : Byte := if c.msb then (c <<< 1) ^^^ 7#8 else c <<< 1

/-- One byte of the CRC-8, most significant bit first. -/
def crcByte (c : Byte) (b : Nat) : Byte :=
  crcBit (crcBit (crcBit (crcBit (crcBit (crcBit (crcBit (crcBit (c ^^^ BitVec.ofNat 8 b))))))))

/-- The check byte of a run of bytes: initial value 0x00, no final inversion. -/
def crc8 (bytes : List Nat) : Nat := (bytes.foldl crcByte 0#8).toNat

/-- The figure of `n` bytes at `at0` of a block, most significant byte first; missing bytes read as 0. -/
def field (block : List Nat) (at0 : Nat) : Nat → Nat
  | 0 => 0
  | n + 1 => field block at0 n * 256 + block.getD (at0 + n) 0

/-! ## Tests that many rules make -/

/-- Straps 0 or 63 make the part listen-only (R163, R173). -/
def listenOnly (s : State) : Bool := s.li.own == 0 || s.li.own == 63

def PauseSet.any (p : PauseSet) : Bool := p.userDoor || p.order || p.supply

/-- The cycle is RUNNING with no pause reason present. -/
def moving (s : State) : Bool := s.cs.state == .running && !s.cs.ctx.pauses.any

/-- RUNNING or PAUSED. -/
def inCycle (s : State) : Bool := s.cs.state == .running || s.cs.state == .paused

/-- RUNNING, PAUSED or ABORTING. -/
def cycleOn (s : State) : Bool := inCycle s || s.cs.state == .aborting

/-- The record of the phase the context stands at. -/
def currentRecord (s : State) : Option PhaseRecord := s.cs.list[s.cs.ctx.phase]?

/-- The running phase is a DRY phase. -/
def inDryPhase (s : State) : Bool := (currentRecord s).any (·.kind == .dry)

/-- R146, R149: the record is in a CLOSING that belongs to a wind-down: no longer a stage of drying. -/
def windingDown (r : DryRecord) : Bool := r.stage == .closing && r.closingTo == .windDown

/-- A tank reserve is active while some entry's tank part carries the reserve flag (R18, R69). -/
def tankReserve (s : State) : Bool := s.sa.view.any fun e => e.tank == some true

/-- The level reads NORMAL or HIGH. -/
def levelUp (s : State) : Bool := s.hc.level == .normal || s.hc.level == .high

/-! ## Sense table (R169) -/

/-- The entries of the other stations, the oldest dropped when `station` is new to a table of four. -/
def senseRoom (station : Nat) (t : List SenseEntry) : List SenseEntry :=
  let others := t.filter (·.station != station)
  if others.length == t.length && t.length ≥ 4 then others.drop 1 else others

/-- R169: the entry is written as the newest. -/
def writeSense (station : Nat) (sense : Sense) (tag : Nat) (s : State) : State :=
  s.onOh fun o => { o with senseTable := senseRoom station o.senseTable ++ [⟨station, sense, tag⟩] }

/-! ## Answers (R165) and completions (R168) -/

def noSense : Sense := ⟨.clear, 255⟩

def pushAnswer (a : Answer) (s : State) : State :=
  s.onLi fun l => { l with answers := l.answers ++ [a] }

/-- A GOOD answer with its result fields. -/
def answerGood (src tag : Nat) (results : List Nat) (s : State) : State :=
  pushAnswer ⟨src, tag, .good, noSense, results, false⟩ s

/-- The second sense of a CHECK answer while station conflict holds: SUPPLY "station conflict", qualifier the count. -/
def secondSense (s : State) : List Nat := if s.li.conflict > 0 then [5, 2, s.li.conflict] else []

/-- A CHECK answer, with its sense table entry. -/
def answerCheck (src tag : Nat) (sense : Sense) (s : State) : State :=
  writeSense src sense tag (pushAnswer ⟨src, tag, .check, sense, secondSense s, false⟩ s)

def answerReject (src tag : Nat) (s : State) : State :=
  pushAnswer ⟨src, tag, .reject, noSense, [], false⟩ s

/-- R162: a completion joins the tail; at four, the oldest one not on the line is dropped first. -/
def joinCompletions (onLine : Bool) (q : List Completion) (c : Completion) : List Completion :=
  if q.length ≥ 4 then (if onLine then q.take 1 ++ q.drop 2 else q.drop 1) ++ [c] else q ++ [c]

/-- R168: OH places a completion and writes the sense table; a listen-only part only writes. -/
def complete (c : Completion) (s : State) : State :=
  let s := if listenOnly s then s else
    s.onLi fun l => { l with completions := joinCompletions (l.sending == some .completion) l.completions c }
  if c.sense.cause == .clear then s else writeSense c.dst c.sense c.tag s

/-- A completion to the cycle owner; there is none to send when the owner is none. -/
def completeToOwner (tag : Nat) (kind : CompletionKind) (outcome : Nat) (sense : Sense) (data : List Nat) (s : State) :
    State :=
  match s.cs.ctx.owner with
  | some o => complete ⟨o, tag, kind, outcome, sense, data⟩ s
  | none => s

/-! ## Persistent record (R54, R174) -/

/-- R54: the resin account SU offers for a write. -/
def recordFigure (s : State) : Nat :=
  if s.su.gate == .shut then s.su.account
  else min s.su.account ((s.su.plan.map (·.a0)).getD s.su.account - s.su.predicted)

/-- The figures a write takes from the blocks at the moment it begins. -/
def figuresNow (inProgress : Bool) (s : State) : PersistentRecord where
  account := recordFigure s
  bed := s.su.bed
  det := s.du.det.account
  rin := s.du.rin.account
  detKnown := s.du.det.known
  rinKnown := s.du.rin.known
  detPrimed := s.du.det.primed
  rinPrimed := s.du.rin.primed
  inProgress := inProgress
  count := s.su.regenCount

/-- R174: a pending write begins when none is in flight; a request that named no cycle-in-progress value leaves it as
it stands in the record image. -/
def beginWrite (s : State) : State :=
  match s.rp.inFlight, s.rp.pendingWrite with
  | none, some p =>
    s.onRp fun r =>
      { r with inFlight := some ⟨figuresNow (p.inProgress.getD r.image.inProgress) s, p.gate, p.brine⟩,
               pendingWrite := none }
  | _, _ => s

/-- R174: requests fold into one pending write; a later request's cycle-in-progress value replaces an earlier one. -/
def foldRequest (p : Option PendingWrite) (inProgress : Option Bool) (gate brine : Bool) : PendingWrite :=
  match p with
  | none => ⟨inProgress, gate, brine⟩
  | some q => ⟨inProgress.or q.inProgress, q.gate || gate, q.brine || brine⟩

/-- A request for a write of the persistent record. An UNCONFIGURED part makes none (R173). -/
def requestWrite (inProgress : Option Bool) (gate brine : Bool) (s : State) : State :=
  if s.rp.configured then
    beginWrite (s.onRp fun r => { r with pendingWrite := some (foldRequest r.pendingWrite inProgress gate brine) })
  else s

/-- Writes asked for by the gate, or by a BRINE start, that has gone open nothing any more (R53, R72). -/
def forgetGateWrites (s : State) : State :=
  s.onRp fun r => { r with inFlight := r.inFlight.map fun w => { w with gate := false },
                           pendingWrite := r.pendingWrite.map fun p => { p with gate := false } }

def forgetBrineWrites (s : State) : State :=
  s.onRp fun r => { r with inFlight := r.inFlight.map fun w => { w with brine := false },
                           pendingWrite := r.pendingWrite.map fun p => { p with brine := false } }

/-! ## Cycle report (R177) -/

def ReportEntry.isSummary : ReportEntry → Bool
  | .summary .. => true
  | _ => false

/-- R177: below 15 every entry is added; the sixteenth place is a summary's; any other is dropped and counted. -/
def addReport (e : ReportEntry) (s : State) : State :=
  s.onRp fun r =>
    if r.report.length < 15 || (r.report.length == 15 && e.isSummary) then { r with report := r.report ++ [e] }
    else { r with dropped := r.dropped + 1 }

/-- The report, its dropped count and the report position are cleared (R171, R177). -/
def clearReport (s : State) : State :=
  (s.onRp fun r => { r with report := [], dropped := 0 }).onOh fun o => { o with reportIndex := 0, reportPart := 0 }

def onDraft (s : State) (f : PhaseDraft → PhaseDraft) : State := s.onRp fun r => { r with draft := f r.draft }

/-! ## What blocks report to CS -/

/-- R24: a condition raised without stopping the cycle; the first one of the cycle is kept. -/
def raiseCondition (cause : Cause) (s : State) : State :=
  if cycleOn s then
    s.onCtx fun x => { x with firstCondition := x.firstCondition.or (some ⟨cause, x.phase⟩) }
  else s

/-- R62: SU sets its want and reports it to CS, which records it in the cycle context. -/
def setWant (s : State) : State :=
  (s.onSu fun u => { u with want := true }).onCtx fun x => { x with regenWanted := true }

/-- The want cleared at the end of a FLUSH, and reported. -/
def clearWant (s : State) : State :=
  (s.onSu fun u => { u with want := false }).onCtx fun x => { x with regenWanted := false }

end Sys2Proof.Machine
end

