-- ==== Sys2Proof/Machine/Flags.lean ====
section
/-! DEFINITION. The numbers under which states, kinds and senses are reported (R167, R168, R169, R177, section 11.2),
and the STATUS QUERY's result fields with their flag bits. -/

namespace Sys2Proof.Machine

/-- The key values of R169. -/
def Cause.key : Cause → Nat
  | .clear => 0
  | .nrRecovery | .nrLeak | .nrOvertemperature | .doorNotLatched | .tankReserve | .tubNotEmpty | .unconfigured => 1
  | .notOwner | .badKind | .badField | .badIndex | .dryNotLast | .afterDry | .phasePassed | .setFull
  | .endOfReport | .badLength => 2
  | .cycleActive | .noList | .cfRegenerating | .cfService | .notRunning | .cfDrying | .noCycle | .cfRecovery
  | .listLoaded => 3
  | .fillSlow | .noFlow | .drainSlow | .hwLeak | .hwDiverter | .temperatureSensor | .hwOvertemperature | .hwHeater
  | .noCirculation | .dosePump | .doorStall | .regenerationSlow | .hwService | .cellFault => 4
  | .noHeadroom | .stationConflict => 5
  | .saltLow | .detergentLow | .rinseAidLow => 6
  | .abortOrder | .doorOpened => 7
  | .amendmentVoid => 8

/-- The code numbers of R169 within their keys. -/
def Cause.code : Cause → Nat
  | .clear => 0
  | .nrRecovery => 1 | .nrLeak => 2 | .nrOvertemperature => 3 | .doorNotLatched => 4 | .tankReserve => 5
  | .tubNotEmpty => 6 | .unconfigured => 7
  | .notOwner => 1 | .badKind => 2 | .badField => 3 | .badIndex => 4 | .dryNotLast => 5 | .afterDry => 6
  | .phasePassed => 7 | .setFull => 8 | .endOfReport => 9 | .badLength => 10
  | .cycleActive => 1 | .noList => 2 | .cfRegenerating => 3 | .cfService => 4 | .notRunning => 5 | .cfDrying => 6
  | .noCycle => 7 | .cfRecovery => 8 | .listLoaded => 9
  | .fillSlow => 1 | .noFlow => 2 | .drainSlow => 3 | .hwLeak => 4 | .hwDiverter => 5 | .temperatureSensor => 6
  | .hwOvertemperature => 7 | .hwHeater => 8 | .noCirculation => 9 | .dosePump => 10 | .doorStall => 11
  | .regenerationSlow => 12 | .hwService => 13 | .cellFault => 14
  | .noHeadroom => 1 | .stationConflict => 2
  | .saltLow => 1 | .detergentLow => 2 | .rinseAidLow => 3
  | .abortOrder => 1 | .doorOpened => 2
  | .amendmentVoid => 1

/-- Key, code and qualifier, one byte each. -/
def Sense.bytes (x : Sense) : List Nat := [x.cause.key, x.cause.code, min x.qual 255]

def AnswerStatus.num : AnswerStatus → Nat
  | .good => 0 | .check => 1 | .reject => 2

def CompletionKind.num : CompletionKind → Nat
  | .cycleEnd => 1 | .regenerationEnd => 2 | .serviceEnd => 3 | .amendmentVoid => 4 | .phaseInserted => 5

def CycleOutcome.num : CycleOutcome → Nat
  | .unset => 0 | .done => 1 | .doneWithConditions => 2 | .aborted => 3 | .faulted => 4

def CycleState.num : CycleState → Nat
  | .empty => 0 | .loaded => 1 | .running => 2 | .paused => 3 | .aborting => 4 | .ended => 5 | .recovery => 6
  | .service => 7

def Stage.num : Stage → Nat
  | .idle => 0 | .entry => 1 | .fill => 2 | .heat => 3 | .hold => 4 | .drain => 5 | .regen => 6 | .exit => 7
  | .drying => 8

def BedState.num : BedState → Nat
  | .ready => 0 | .depleted => 1 | .brining => 2 | .rinsing => 3 | .salted => 4

def Door.num : Door → Nat
  | .latched => 0 | .ajar => 1 | .opened => 2

def DryPlan.num : DryPlan → Nat
  | .unset => 0 | .openDry => 1 | .closedDry => 2

def DoorOutcome.num : DoorOutcome → Nat
  | .unset => 0 | .latched => 1 | .leftAjar => 2 | .userOpened => 3

def Placement.num : Placement → Nat
  | .inCycle => 0 | .postCycle => 1 | .standalone => 2 | .recovery => 3

def PhaseKind.num : PhaseKind → Nat
  | .prewash => 0 | .mainwash => 1 | .rinse => 2 | .finalrinse => 3 | .dry => 4

def bit (b : Bool) (n : Nat) : Nat := if b then 2 ^ n else 0

/-- Pause reasons: bit 0 USER DOOR, bit 1 ORDER, bit 2 SUPPLY (R167). -/
def PauseSet.bits (p : PauseSet) : Nat := bit p.userDoor 0 + bit p.order 1 + bit p.supply 2

def SeqState.num : SeqState → Nat
  | .held => 1 | .brine => 2 | .displace => 3 | .flush => 4 | .ended => 0

/-- The regeneration's sequence state as STATUS QUERY reports it, 0 while none exists (R65, R167). -/
def regenNum (r : Option RegenRecord) : Nat := (r.map fun x => x.seq.num).getD 0

/-- R60: the account as a percentage of capacity, truncated. -/
def resinPercent (s : State) : Nat := s.su.account * 100 / s.rp.cfg.bedCapacity

/-- R83: a reservoir's percentage, 255 when its account is not known. -/
def tankPercent (t : Tank) (capacity : Nat) : Nat := if t.known then t.account * 100 / capacity else 255

/-- The flags byte of STATUS QUERY (R167). -/
def statusFlags (s : State) : Nat :=
  bit s.su.regenerating 0 + bit s.du.det.exhausted 1 + bit s.du.rin.exhausted 2 + bit s.hc.leakLatch 3
    + bit s.tc.overtemp 4 + bit (s.li.conflict > 0) 5 + bit (s.sa.overflow > 0) 6

/-- R105: the allotment is A, lowered to max(cap, F) while a shed applies and to F while station conflict holds. -/
def allotment (s : State) : Nat :=
  let a := match s.sa.shed with
    | some h => min s.sa.announced (max h.cap s.rp.cfg.floor)
    | none => s.sa.announced
  if s.li.conflict > 0 then min a s.rp.cfg.floor else a

/-- The result fields of STATUS QUERY, in the table's order (R167). -/
def statusFields (s : State) : List Nat :=
  [s.cs.state.num, s.cs.ctx.phase, s.cs.ctx.stage.num, s.cs.ctx.pauses.bits, s.su.bed.num, resinPercent s,
    regenNum s.su.regen, tankPercent s.du.det s.rp.cfg.detCapacity, tankPercent s.du.rin s.rp.cfg.rinCapacity,
    statusFlags s, s.dc.door.num]
    ++ be2 (allotment s) ++ be2 s.su.regenCount
    ++ [s.sa.view.length, (s.sa.view.filter (·.stale)).length]

/-! ## Report entries as READ REPORT returns them (R177) -/

/-- Whether an entry has a part: a phase entry has parts 0 and 1, the others part 0 only (R171). -/
def ReportEntry.hasPart (e : ReportEntry) (part : Nat) : Bool :=
  match e with
  | .phase .. => part ≤ 1
  | _ => part == 0

/-- The bytes of one part of an entry. -/
def ReportEntry.bytes (e : ReportEntry) (part : Nat) : List Nat :=
  match e with
  | .phase index kind under d peak wait _ _ =>
    if part == 0 then
      [1, index, kind.num * 16 + bit under 0 + bit d.underdose 1 + bit d.cellFault 2]
        ++ sat2 d.fill.target ++ sat2 d.fill.actual ++ sat2 d.fill.bypass ++ sat2 d.fill.soft
        ++ sat2 d.fill.hardThrough ++ sat2 d.fill.hin ++ sat2 d.fill.heff
    else
      sat3 d.charged ++ sat2 d.doseDelivered ++ sat2 peak ++ sat2 wait ++ sat2 d.elapsed
        ++ if kind == .dry then [d.finalPlan.num, d.reopens, d.doorOutcome.num] ++ sat2 d.fanSeconds else []
  | .regeneration placement steps water credit weak =>
    [2, placement.num, steps] ++ sat2 water ++ sat3 credit ++ [bit weak 0]
  | .summary outcome water energy dropped =>
    [3, outcome.num] ++ sat3 water ++ sat2 energy ++ sat1 dropped

/-! ## The persistent record's bytes (section 11.2) -/

/-- Bytes 0 to 12 of the persistent record. -/
def PersistentRecord.body (r : PersistentRecord) : List Nat :=
  be3 r.account ++ [r.bed.num] ++ be3 r.det ++ be3 r.rin
    ++ [bit r.detKnown 0 + bit r.rinKnown 1 + bit r.detPrimed 2 + bit r.rinPrimed 3 + bit r.inProgress 4]
    ++ be2 r.count

/-- The fourteen bytes of the persistent record, the check last. -/
def PersistentRecord.bytes (r : PersistentRecord) : List Nat := r.body ++ [crc8 r.body]

def bedOfNum (n : Nat) : BedState :=
  match n with
  | 0 => .ready
  | 1 => .depleted
  | 2 => .brining
  | 3 => .rinsing
  | _ => .salted  -- a bed number above 4 is read as SALTED (DESIGN CHOICE, log entry 9)

/-- R173 step 3: the record read from the memory's bytes, or none when the memory gives too few bytes or its check
does not match. -/
def readRecord (b : List Nat) : Option PersistentRecord :=
  if b.length ≥ 14 && crc8 (b.take 13) == b.getD 13 0 then
    some
      { account := field b 0 3, bed := bedOfNum (b.getD 3 0), det := field b 4 3, rin := field b 7 3,
        detKnown := b.getD 10 0 % 2 == 1, rinKnown := b.getD 10 0 / 2 % 2 == 1,
        detPrimed := b.getD 10 0 / 4 % 2 == 1, rinPrimed := b.getD 10 0 / 8 % 2 == 1,
        inProgress := b.getD 10 0 / 16 % 2 == 1, count := field b 11 2 }
  else none

end Sys2Proof.Machine
end

