-- ==== Sys2Proof/Machine/Operands.lean ====
section
/-! DEFINITION. The operand forms: the payload layouts of orders, phase records and notices (section 9.3, section
10.1), the values their fields name, and the clamping of phase record fields (R1). -/

namespace Sys2Proof.Machine

/-! ## Values named by numbers -/

def kindOf : Nat → Option PhaseKind
  | 0 => some .prewash
  | 1 => some .mainwash
  | 2 => some .rinse
  | 3 => some .finalrinse
  | 4 => some .dry
  | _ => none

def patternOf : Nat → Option SprayPattern
  | 0 => some .upper
  | 1 => some .lower
  | 2 => some .both
  | 3 => some .alternate
  | _ => none

def doseOf : Nat → Option DoseSel
  | 0 => some .noDose
  | 1 => some .detergent
  | 2 => some .rinseAid
  | _ => none

def amendFieldOf : Nat → Option AmendField
  | 0 => some .temperature
  | 1 => some .hold
  | 2 => some .fill
  | 3 => some .level
  | 4 => some .dose
  | _ => none

def reservoirOf : Nat → Option Reservoir
  | 0 => some .detergent
  | 1 => some .rinseAid
  | _ => none

/-! ## Clamping (R1) -/

def clampFill (kind : PhaseKind) (v : Nat) : Nat := if kind == .dry then 0 else clamp 1000 6000 v
def clampTemp (kind : PhaseKind) (v : Nat) : Nat := if kind == .dry || v == 0 then 0 else clamp 300 750 v
def clampHold (v : Nat) : Nat := min v 3600
def clampLevel (v : Nat) : Nat := clamp 1 8 v

/-- The drying part kept by a DRY record, within its ranges; other kinds keep none. -/
def clampDrying (kind : PhaseKind) (d : Option RawDrying) : Option DryingPart :=
  if kind == .dry then d.map fun x => ⟨min x.condense 1800, min x.vent 3600, x.doorOpen != 0⟩ else none

/-- The record R1 stores for a sent record whose kind, pattern and dose are known. -/
def storedRecord (r : RawPhase) (kind : PhaseKind) (pattern : SprayPattern) (dose : DoseSel) : PhaseRecord where
  kind := kind
  fill := clampFill kind r.fill
  temp := clampTemp kind r.temp
  hold := clampHold r.hold
  level := clampLevel r.level
  pattern := pattern
  dose := if kind == .dry then .noDose else dose
  soil := kind != .dry && r.soil
  regen := kind != .dry && r.regen
  ext := r.ext
  drying := clampDrying kind r.drying

/-- An amendment's value clamped "by the table of R1 for the kind of the target record" (R11). -/
def clampAmend (kind : PhaseKind) (f : AmendField) (v : Nat) : Nat :=
  match f with
  | .temperature => clampTemp kind v
  | .hold => clampHold v
  | .fill => clampFill kind v
  | .level => clampLevel v
  | .dose => if kind == .dry then 0 else v

/-- A clamped value written into the field of a record (R14, R15). -/
def amendRecord (f : AmendField) (v : Nat) (r : PhaseRecord) : PhaseRecord :=
  match f with
  | .temperature => { r with temp := v }
  | .hold => { r with hold := v }
  | .fill => { r with fill := v }
  | .level => { r with level := v }
  | .dose => { r with dose := (doseOf v).getD r.dose }

/-! ## Kinds of frames (R154) -/

def kindLoadNotice : Nat := 0x10
def kindClaim : Nat := 0x11
def kindShed : Nat := 0x12
def kindShedEnd : Nat := 0x13
def kindMotion : Nat := 0x20
def kindTank : Nat := 0x21
def kindOrder : Nat := 0x40
def kindAnswer : Nat := 0x41
def kindCompletion : Nat := 0x42

/-- The kinds R101 calls notices. -/
def isNotice (kind : Nat) : Bool :=
  kind == 0x10 || kind == 0x11 || kind == 0x12 || kind == 0x13 || kind == 0x20 || kind == 0x21

/-! ## Notice payloads (section 9.3, R101, R156) -/

/-- The load part of a LOAD NOTICE or CLAIM; none when the length does not match. -/
def loadPartOf : List Nat → Option LoadPart
  | [hi, lo] => some ⟨hi * 256 + lo, none⟩
  | [hi, lo, rank] => some ⟨hi * 256 + lo, some (min rank 7)⟩
  | _ => none

/-- A two-byte signed count. -/
def signed2 (hi lo : Nat) : Int :=
  if hi < 128 then (hi * 256 + lo : Nat) else ((hi * 256 + lo : Nat) : Int) - 65536

/-- The motion part of a MOTION NOTICE: tilt within ±180.0°, level at most 3. -/
def motionPartOf (now : Nat) : List Nat → Option MotionPart
  | [hi, lo, level] => some ⟨max (-360) (min 360 (signed2 hi lo)), min level 3, now, true⟩
  | _ => none

/-- The reserve flag of a TANK NOTICE, bit 0 of its flags byte. -/
def tankFlagOf : List Nat → Option Bool
  | [_, flags] => some (flags % 2 == 1)
  | _ => none

/-- Threshold, cap and hold time of a SHED; a hold time of 0 is taken as 1 (R115). -/
def shedOf : List Nat → Option (Nat × Nat × Nat)
  | [threshold, hi, lo, hold] => some (threshold, hi * 256 + lo, max hold 1)
  | _ => none

/-! ## Phase records on the line (section 9.3) -/

/-- The first ten bytes of a record; `b9` is the flags byte. -/
def rawPhase (b0 b1 b2 b3 b4 b5 b6 b7 b8 b9 : Nat) (drying : Option RawDrying) : RawPhase where
  kind := b0
  fill := b1 * 256 + b2
  temp := b3 * 256 + b4
  hold := b5 * 256 + b6
  level := b7
  pattern := b8 / 16
  dose := b8 % 16
  soil := b9 % 2 == 1
  regen := b9 / 2 % 2 == 1
  ext := b9 / 4 % 2 == 1
  drying := drying

/-- The records of a LOAD PHASES order: one of 10 or 15 bytes, or two of 10. A second record that is begun must be
whole and of 10 bytes; bytes beyond the parameters are not read (DESIGN CHOICE, log entry 21). -/
def parseRecords : List Nat → Option (List RawPhase)
  | b0 :: b1 :: b2 :: b3 :: b4 :: b5 :: b6 :: b7 :: b8 :: b9 :: rest =>
    if b9 / 8 % 2 == 1 then
      match rest with
      | c0 :: c1 :: v0 :: v1 :: o :: _ =>
        some [rawPhase b0 b1 b2 b3 b4 b5 b6 b7 b8 b9 (some ⟨c0 * 256 + c1, v0 * 256 + v1, o⟩)]
      | _ => none
    else
      match rest with
      | [] => some [rawPhase b0 b1 b2 b3 b4 b5 b6 b7 b8 b9 none]
      | d0 :: d1 :: d2 :: d3 :: d4 :: d5 :: d6 :: d7 :: d8 :: d9 :: _ =>
        if d9 / 8 % 2 == 1 then none
        else some [rawPhase b0 b1 b2 b3 b4 b5 b6 b7 b8 b9 none, rawPhase d0 d1 d2 d3 d4 d5 d6 d7 d8 d9 none]
      | _ => none
  | _ => none

def rawFlags (r : RawPhase) : Nat :=
  (if r.soil then 1 else 0) + (if r.regen then 2 else 0) + (if r.ext then 4 else 0)
    + (if r.drying.isSome then 8 else 0)

/-- The bytes that carry a record. -/
def rawBytes (r : RawPhase) : List Nat :=
  [r.kind] ++ be2 r.fill ++ be2 r.temp ++ be2 r.hold ++ [r.level, r.pattern * 16 + r.dose, rawFlags r]
    ++ match r.drying with
      | none => []
      | some d => be2 d.condense ++ be2 d.vent ++ [d.doorOpen]

/-! ## Orders on the line (section 10.1, R165) -/

/-- The order codes of section 10.1. -/
def orderCodes : List Nat :=
  [0x01, 0x02, 0x10, 0x11, 0x12, 0x13, 0x14, 0x18, 0x19, 0x1A, 0x20, 0x21, 0x30, 0x31, 0x32, 0x3F]

/-- An order whose parameters are whole; none when the code is unknown or the payload is too short. -/
def decodeParams (src code tag : Nat) (ps : List Nat) : Option Instr :=
  match code, ps with
  | 0x01, _ => some (.readyQuery src tag)
  | 0x02, _ => some (.statusQuery src tag)
  | 0x10, start :: recs => (parseRecords recs).map (Instr.loadPhases src tag start)
  | 0x11, _ => some (.start src tag)
  | 0x12, _ => some (.pause src tag)
  | 0x13, _ => some (.resume src tag)
  | 0x14, _ => some (.abort src tag)
  | 0x18, target :: fld :: hi :: lo :: _ => some (.amend src tag target fld (hi * 256 + lo))
  | 0x19, _ => some (.holdAmendments src tag)
  | 0x1A, _ => some (.releaseAmendments src tag)
  | 0x20, start :: part :: _ => some (.readReport src tag start part)
  | 0x21, _ => some (.sense src tag)
  | 0x30, reservoir :: _ => some (.reservoirFilled src tag reservoir)
  | 0x31, _ => some (.forceRegeneration src tag)
  | 0x32, _ => some (.serviceTest src tag)
  | 0x3F, _ => some (.deviceReset src tag)
  | _, _ => none

/-- OH's decoding of a queued frame (R165): the order it carries, or the frame itself when it is no ORDER, is too short
or has an unknown code. -/
def decodeFrame (f : Frame) : Instr :=
  if f.kind == kindOrder then
    match f.payload with
    | code :: tag :: ps => (decodeParams f.src code tag ps).getD (.unknownOrder f)
    | _ => .unknownOrder f
  else .unknownOrder f

/-- The code and parameters of an order command; none for a command that is no order. -/
def orderBody : Instr → Option (Nat × Nat × Nat × List Nat)
  | .readyQuery src tag => some (src, 0x01, tag, [])
  | .statusQuery src tag => some (src, 0x02, tag, [])
  | .loadPhases src tag start recs => some (src, 0x10, tag, start :: recs.flatMap rawBytes)
  | .start src tag => some (src, 0x11, tag, [])
  | .pause src tag => some (src, 0x12, tag, [])
  | .resume src tag => some (src, 0x13, tag, [])
  | .abort src tag => some (src, 0x14, tag, [])
  | .amend src tag target fld value => some (src, 0x18, tag, target :: fld :: be2 value)
  | .holdAmendments src tag => some (src, 0x19, tag, [])
  | .releaseAmendments src tag => some (src, 0x1A, tag, [])
  | .readReport src tag start part => some (src, 0x20, tag, [start, part])
  | .sense src tag => some (src, 0x21, tag, [])
  | .reservoirFilled src tag reservoir => some (src, 0x30, tag, [reservoir])
  | .forceRegeneration src tag => some (src, 0x31, tag, [])
  | .serviceTest src tag => some (src, 0x32, tag, [])
  | .deviceReset src tag => some (src, 0x3F, tag, [])
  | _ => none

/-- The ORDER frame, sent to `dst`, that carries an order command (class 2, kind 0x40). -/
def encodeOrder (dst : Nat) (c : Instr) : Option Frame :=
  (orderBody c).map fun (src, code, tag, ps) => ⟨2, src, dst, kindOrder, code :: tag :: ps⟩

/-! ## Door, level and class readings -/

/-- R28: the reading of the highest switch closed. -/
def levelOf (lvl0 lvl1 lvl2 : Bool) : Level :=
  if lvl2 then .high else if lvl1 then .normal else if lvl0 then .low else .empty

/-- R136: the latch switch closed gives LATCHED; else the ajar switch closed gives AJAR; both open give OPEN. -/
def doorOf (latch ajar : Bool) : Door :=
  if latch then .latched else if ajar then .ajar else .opened

/-- R42: the thresholds, or the three defaults when they are not strictly ascending. -/
def thresholds (c : Configuration) : Nat × Nat × Nat :=
  if c.t1 < c.t2 && c.t2 < c.t3 then (c.t1, c.t2, c.t3) else (150, 380, 640)

/-- R42: the class of a raw reading; a raw value at an end of the converter's range is a sensor fault of class 1. -/
def soilClassOf (c : Configuration) (r : Nat) : Nat :=
  if r == 0 || r ≥ 1023 then 1
  else
    let (t1, t2, t3) := thresholds c
    if r < t1 then 0 else if r < t2 then 1 else if r < t3 then 2 else 3

end Sys2Proof.Machine
end

