-- ==== Sys2Proof/Machine/Supply.lean ====
section
/-! DEFINITION. The Supply Account (chapter 6): the loads the blocks request, the arbiter walk (R107), claims and their
tests (R106, R110, R111), lowering notices (R113), and the supply slot (R162). -/

namespace Sys2Proof.Machine

/-! ## What the blocks request (R107) -/

/-- R124: the conditions under which an element may be energized, the sensor state and the heater-disabled flag among
them. -/
def heaterInterlock (s : State) : Bool :=
  moving s && (s.cs.ctx.stage == .heat || s.cs.ctx.stage == .hold) && s.hc.drive ≥ 1 && levelUp s
    && !s.tc.overtemp && !s.tc.faulted && !s.tc.disabled

/-- R126: the stage HEAT wants from the shortfall of the tub temperature. -/
def heatStage (s : State) : Nat := if s.tc.tub + s.rp.cfg.stageBand < s.tc.target then 2 else 1

/-- R124, R126, R130: the stage TC wants. -/
def heaterWanted (s : State) : Nat :=
  if heaterInterlock s then
    if s.cs.ctx.stage == .heat then heatStage s
    else if s.tc.target > 0 && s.tc.regOn then 1 else 0
  else 0

/-- A regeneration has begun and its sequence runs (R65, R71 case 3). -/
def regenBegun (s : State) : Bool :=
  s.su.regen.any fun r => r.seq == .brine || r.seq == .displace || r.seq == .flush

/-- The service item that runs now, its grant in hand. -/
def serviceRuns (item : Nat) (s : State) : Bool := s.hc.service.any fun v => v.item == item && !v.waiting

/-- The service item that runs or waits for its load. -/
def serviceAt (item : Nat) (s : State) : Bool := s.hc.service.any fun v => v.item == item

/-- R37: the drain pump runs while a drain, a regeneration sequence or a set leak latch asks for it; R44 item 6. -/
def drainWanted (s : State) : Bool := s.hc.drainOn || s.hc.leakLatch || regenBegun s || serviceAt 6 s

/-- R33: the requested circulation level; R44 item 5. -/
def circWanted (s : State) : Nat :=
  if moving s && (s.cs.ctx.stage == .heat || s.cs.ctx.stage == .hold) && levelUp s then
    ((currentRecord s).map (·.level)).getD 0
  else if serviceAt 5 s then 1 else 0

/-- R90: a job asks for its pump from WAITING until its RESTING ends; R44 item 8. From RESTING into the next WAITING the
request stands, so that the next stroke's asking is no change of it (DESIGN CHOICE, log entry 72). -/
def pumpWanted (res : Reservoir) (s : State) : Bool :=
  (s.du.job.any fun j => j.res == res && (j.phase == .waiting || j.phase == .stroking || j.phase == .resting))
    || s.du.svc.any fun v => v.res == res

/-- R151: the fan is requested from the end of CONDENSE until the end of drying, which an ABORT or fault before the
CLOSING of a wind-down is (R149); R44 item 7. -/
def fanWanted (s : State) : Bool :=
  (s.cs.state == .running && s.dc.record.any fun r =>
    r.stage == .opening || r.stage == .vent || r.stage == .ventClosed || (r.stage == .closing && !windingDown r))
    || serviceAt 7 s

/-- The requests of all owners. An UNCONFIGURED part asks for the drain pump of the leak response alone (R173). -/
def requestsOf (s : State) : Loads :=
  if s.rp.configured then
    { drain := drainWanted s, circ := circWanted s, actuator := s.dc.move != .still, det := pumpWanted .detergent s,
      rin := pumpWanted .rinseAid s, heater := heaterWanted s, fan := fanWanted s }
  else { Loads.none with drain := s.hc.leakLatch }

/-! ## The walk (R107) -/

/-- R33: the declared draw of a circulation level; level 0 draws nothing. -/
def circDraw (c : Configuration) (level : Nat) : Nat := if level == 0 then 0 else c.circDraws.getD (level - 1) 0

def heaterDraw (c : Configuration) (stage : Nat) : Nat :=
  if stage == 0 then 0 else if stage == 1 then c.heater1Draw else c.heater2Draw

/-- The sum of declared draws of granted loads, the base load among them. -/
def drawOf (c : Configuration) (g : Loads) : Nat :=
  c.baseDraw + (if g.drain then c.drainDraw else 0) + circDraw c g.circ + (if g.actuator then c.actuatorDraw else 0)
    + (if g.det then c.detDraw else 0) + (if g.rin then c.rinDraw else 0) + heaterDraw c g.heater
    + (if g.fan then c.fanDraw else 0)

/-- The highest level at or below the request whose draw fits the remainder, whether or not a lower level fits (DESIGN
CHOICE, log entry 49). -/
def fitCirc (c : Configuration) (room : Nat) : Nat → Nat
  | 0 => 0
  | n + 1 => if circDraw c (n + 1) ≤ room then n + 1 else fitCirc c room n

/-- The highest heater stage at or below the request that fits. -/
def fitHeater (c : Configuration) (room request : Nat) : Nat :=
  if 2 ≤ request && heaterDraw c 2 ≤ room then 2 else if 1 ≤ request && heaterDraw c 1 ≤ room then 1 else 0

/-- R107: the walk of the loads in their order of priority against a limit. Base load and drain pump are always
served in full. -/
def walk (c : Configuration) (limit : Nat) (r : Loads) : Loads :=
  let room := limit - c.baseDraw - (if r.drain then c.drainDraw else 0)
  let circ := fitCirc c room r.circ
  let room := room - circDraw c circ
  let act := r.actuator && c.actuatorDraw ≤ room
  let room := room - (if act then c.actuatorDraw else 0)
  let det := r.det && c.detDraw ≤ room
  let room := room - (if det then c.detDraw else 0)
  let rin := r.rin && c.rinDraw ≤ room
  let room := room - (if rin then c.rinDraw else 0)
  let heater := fitHeater c room r.heater
  let room := room - heaterDraw c heater
  { drain := r.drain, circ := circ, actuator := act, det := det, rin := rin, heater := heater,
    fan := r.fan && c.fanDraw ≤ room }

/-! ## Figures (R105, R106, R113) -/

/-- The sum of the draws of every load part in the view, stale entries included. -/
def viewDraw (v : List PeerEntry) : Nat := (v.map fun e => (e.load.map (·.draw)).getD 0).sum

/-- R106: headroom, which may be negative. -/
def headroom (s : State) : Int := (s.rp.cfg.siteLimit : Int) - viewDraw s.sa.view - s.sa.announced

/-- R106: the largest figure the part may claim, 0 when the other stations take more than the site limit. -/
def claimCeiling (s : State) : Nat :=
  let room := s.rp.cfg.siteLimit - viewDraw s.sa.view
  match s.sa.shed with
  | some h => min room (max h.cap s.rp.cfg.floor)
  | none => room

/-- R106: whether a claim may be formed. -/
def mayClaim (s : State) : Bool :=
  !listenOnly s && s.rp.configured && s.sa.overflow == 0 && s.li.conflict == 0 && s.sa.settle == 0

/-- R113: the larger of F and the sum of the grants. -/
def announceFigure (s : State) : Nat := max s.rp.cfg.floor (drawOf s.rp.cfg s.sa.grants)

def supplyOnLine (s : State) : Bool := s.li.sending == some .supply

/-- The part's own CLAIM is on the line. -/
def claimOnLine (s : State) : Bool := supplyOnLine s && s.li.slot.any (·.claim)

/-- The supply frame that waits to be sent: in the slot, or behind a frame that is on the line. -/
def waitingFrame (s : State) : Option SupplyFrame :=
  if supplyOnLine s then
    match s.li.follower with
    | .frame f => some f
    | _ => none
  else s.li.slot

/-- The figure of a claim that waits to be sent. -/
def queuedClaim (s : State) : Option Nat :=
  match waitingFrame s with
  | some f => if f.claim then some f.figure else none
  | none => none

/-- R113: the figure below A of a LOAD NOTICE that waits to be sent. -/
def unsentLowering (s : State) : Option Nat :=
  match waitingFrame s with
  | some f => if !f.claim && f.figure < s.sa.announced then some f.figure else none
  | none => none

/-- R113: the figure P below A of a LOAD NOTICE that stands in the slot or is on the line. -/
def loweringFigure (s : State) : Option Nat :=
  match s.li.slot with
  | some f => if !f.claim && f.figure < s.sa.announced then some f.figure else none
  | none => none

/-- R107, R113: the allotment, or the lowering figure while one stands. -/
def servingLimit (s : State) : Nat :=
  match loweringFigure s with
  | some p => min p (allotment s)
  | none => allotment s

/-- The serving limit without a LOAD NOTICE that waits: the allotment, or the lowering figure that is on the line. -/
def sentLimit (s : State) : Nat := if supplyOnLine s then servingLimit s else allotment s

/-! ## The supply slot (R162) -/

/-- SA places a frame: it replaces the slot's, or waits behind one on the line. A listen-only part places none. -/
def placeSupply (f : SupplyFrame) (s : State) : State :=
  if listenOnly s then s
  else if supplyOnLine s then s.onLi fun l => { l with follower := .frame f }
  else s.onLi fun l => { l with slot := some f }

/-- A frame that waits is taken out of its place. One that waits behind a LOAD NOTICE on the line is the follower, and
no follower is left (DESIGN CHOICE, log entry 50). -/
def emptySlot (s : State) : State :=
  if supplyOnLine s then s.onLi fun l => { l with follower := .nothing } else s.onLi fun l => { l with slot := none }

/-- R110, R112: a claim that waits is withdrawn, and each withdrawal starts the deferral timer. -/
def removeClaim (s : State) : State :=
  if (queuedClaim s).isSome then (emptySlot s).onSa fun a => { a with deferral := some 0 } else s

/-! ## Statuses (R109) -/

/-- The status of a load from its request, its grant and what the claim would cover. -/
def statusFor (request grant covered : Nat) : LoadStatus :=
  if request == 0 then .idle
  else if request ≤ grant then .granted
  else if covered ≤ grant then .deferred
  else if covered < request then .waitingRest
  else .waiting

def statusesFor (r g cov : Loads) : Statuses where
  circ := statusFor r.circ g.circ cov.circ
  actuator := statusFor r.actuator.toNat g.actuator.toNat cov.actuator.toNat
  det := statusFor r.det.toNat g.det.toNat cov.det.toNat
  rin := statusFor r.rin.toNat g.rin.toNat cov.rin.toNat
  heater := statusFor r.heater g.heater cov.heater
  fan := statusFor r.fan.toNat g.fan.toNat cov.fan.toNat

def LoadStatus.isDeferred (x : LoadStatus) : Bool := x == .deferred || x == .waitingRest
def LoadStatus.lostClaim (x : LoadStatus) : LoadStatus :=
  match x with
  | .waiting | .waitingRest => .deferred
  | y => y

def Statuses.anyDeferred (t : Statuses) : Bool :=
  t.circ.isDeferred || t.actuator.isDeferred || t.det.isDeferred || t.rin.isDeferred || t.heater.isDeferred
    || t.fan.isDeferred

def Statuses.lostClaim (t : Statuses) : Statuses :=
  ⟨t.circ.lostClaim, t.actuator.lostClaim, t.det.lostClaim, t.rin.lostClaim, t.heater.lostClaim, t.fan.lostClaim⟩

/-- R111: the loads WAITING on a withdrawn claim become DEFERRED and the deferral timer starts. -/
def deferWaiting (s : State) : State :=
  s.onSa fun a => { a with statuses := a.statuses.lostClaim, deferral := some 0 }

/-- R111, R162: the claim is withdrawn; the withdrawal of a claim that is on the line is held until its outcome. -/
def withdrawClaim (s : State) : State :=
  if (queuedClaim s).isSome then deferWaiting (removeClaim s)
  else if claimOnLine s then deferWaiting (s.onLi fun l => { l with follower := .withdrawal })
  else s

/-- The figure of the part's claim, queued or on the line. -/
def claimFigure (s : State) : Option Nat :=
  (queuedClaim s).or (if claimOnLine s then s.li.slot.map (·.figure) else none)

/-- R111: the test of the claim against the ceiling. -/
def testClaim (s : State) : State :=
  match claimFigure s with
  | some b => if b ≤ claimCeiling s && mayClaim s then s else withdrawClaim s
  | none => s

/-! ## The walks (R107, R110, R113) -/

/-- R113 case 2: an unsent lowering notice, in the slot or behind a LOAD NOTICE on the line, gives way to a request that
fits the allotment, or the figure on the line, but not its own figure. Where a request fits the allotment only in part (a heater that asks for stage 2 and fits stage 1), which R113's cases do not
name, the notice gives way too, if the walk against the allotment grants anything else than the walk against its
figure (DESIGN CHOICE, log entry 74). -/
def noticeYields (req : Loads) (s : State) : Bool :=
  match unsentLowering s with
  | some p => walk s.rp.cfg (min p (sentLimit s)) req != walk s.rp.cfg (sentLimit s) req
  | none => false

/-- The notice that gives way is withdrawn, and with it its lowering figure. -/
def yieldNotice (req : Loads) (s : State) : State := if noticeYields req s then emptySlot s else s

/-- R107: the grants of a walk against the serving limit. -/
def grantLoads (req : Loads) (s : State) : State :=
  s.onSa fun a => { a with requests := req, grants := walk s.rp.cfg (servingLimit s) req }

/-- Statuses are told, and the deferral timer starts at a walk that leaves a load DEFERRED (R109, R112), one made at a
line reset condition too (DEDUCED, log entry 64). -/
def tellStatuses (t : Statuses) (s : State) : State :=
  s.onSa fun a => { a with statuses := t, deferral := if t.anyDeferred then some 0 else a.deferral }

/-- R109: what the part's CLAIM on the line covers: the loads of a walk against its figure, which cannot change. A
withdrawal held behind it covers nothing. -/
def coveredOnLine (s : State) : Loads :=
  match s.li.slot, s.li.follower with
  | _, .withdrawal => s.sa.grants
  | some f, _ => walk s.rp.cfg f.figure s.sa.requests
  | none, _ => s.sa.grants

/-- R110: the claim walk after a walk. While the part's own CLAIM is on the line it is put off; while a lowering notice
is on the line the short loads wait for its outcome (R113 case 3). -/
def claimWalk (s : State) : State :=
  let r := s.sa.requests
  let g := s.sa.grants
  if claimOnLine s then
    (tellStatuses (statusesFor r g (coveredOnLine s)) s).onSa fun a => { a with claimOwed := true }
  else if r == g then tellStatuses (statusesFor r g g) (removeClaim s)
  else if (loweringFigure s).isSome && supplyOnLine s then
    (tellStatuses (statusesFor r g r) s).onSa fun a => { a with claimOwed := true }
  else
    let cov := walk s.rp.cfg (claimCeiling s) r
    let b := max s.rp.cfg.floor (drawOf s.rp.cfg cov)
    if b > allotment s && mayClaim s then tellStatuses (statusesFor r g cov) (placeSupply ⟨true, b⟩ s)
    else tellStatuses (statusesFor r g g) (removeClaim s)

/-- R113: a LOAD NOTICE with the announce figure is placed when that figure has come to A − 50 or lower, or is below A
at all where R115 or R117 asks so, and no claim is queued or on the line. The figure of the notice that was placed last
is not placed again, unless an unsent notice has just given way (`again`). -/
def lowerNotice (again : Bool) (s : State) : State :=
  let p := announceFigure s
  let falls := if s.sa.mustAnnounce then p < s.sa.announced else p + 50 ≤ s.sa.announced
  if falls && (queuedClaim s).isNone && !claimOnLine s
      && (again || (waitingFrame s).or s.li.slot != some ⟨false, p⟩) then placeSupply ⟨false, p⟩ s
  else s

/-- R107, R110, R112: what calls for a claim walk: a changed request, a changed allotment, or a re-ask event. A notice
that only lowers the serving limit (R113, R114) calls for none, nor does a SHED or a conflict that leaves the allotment
as it was (DEDUCED, log entry 65). -/
def walkAsked (s : State) : Bool :=
  requestsOf s != s.sa.requests || allotment s != s.sa.allotted || s.sa.reask

/-- One round of SA: the walk; the claim walk, when something calls for it; and the lowering test, which a shed or a
conflict (R115, R117) or a withdrawn lowering notice (R113 case 2) calls for besides. A SHED that withdraws the part's
claim and is itself a re-ask event forms the smaller claim in the same round (DESIGN CHOICE, log entry 51). -/
def supplyRound (s : State) : State :=
  let req := requestsOf s
  let asked := walkAsked s
  let yields := noticeYields req s
  let s := grantLoads req (yieldNotice req s)
  let s := if asked then claimWalk s else s
  let s := if asked || yields || s.sa.mustAnnounce then lowerNotice yields s else s
  s.onSa fun a => { a with served := servingLimit s, allotted := allotment s, reask := false }

/-- A re-ask event (R112). -/
def askAgain (s : State) : State := s.onSa fun a => { a with reask := true }

end Sys2Proof.Machine
end

