-- ==== Sys2Proof/Machine/Water.lean ====
section
/-! DEFINITION. The tub's water (chapter 2) and the hardness, blending and charging of a fill (chapter 3): the inlet and
its meter, the fill, the blend plan and the write gate, the drain, the diverter, and leaving a fill. -/

namespace Sys2Proof.Machine

/-! ## The inlet and its meter (R26, R27) -/

/-- R27: the volume of so many pulses in mL. -/
def volume (c : Configuration) (pulses : Nat) : Nat := pulses * c.meterK / 64

/-- The volume delivered since the grant of the inlet. -/
def delivered (s : State) : Nat := volume s.rp.cfg s.hc.pulses

/-- R27: the volume delivered on the SOFT route. -/
def softVolume (s : State) : Nat :=
  s.hc.softDone
    + if s.hc.fillState == .soft then delivered s - volume s.rp.cfg s.hc.softFrom else 0

/-- R27: the volume delivered less the soft volume. -/
def bypassVolume (s : State) : Nat := delivered s - softVolume s

/-- The fill state is one in which the fill owns an open inlet (R29, R30). -/
def fillOpen (f : FillState) : Bool := f == .bypass || f == .soft || f == .topup

/-- The inlet valve is open for the fill: the fill owns it and no pause stops it (R26, R32). -/
def fillValveOpen (s : State) : Bool := s.hc.owner == .fill && fillOpen s.hc.fillState && moving s

/-- The regeneration step whose valves are open (R71). -/
def flowingStep (s : State) : Option SeqState :=
  match s.su.regen with
  | some r => if s.hc.owner == .regen && r.phase == .flowing then some r.seq else none
  | none => none

/-- R26: the owner releases the inlet; the route returns to BYPASS at that moment. -/
def releaseInlet (s : State) : State := s.onHc fun h => { h with owner := .free, route := .bypass }

/-- The route returns to BYPASS within a fill; the SOFT segment's volume is kept (R27, R29 case 4). -/
def leaveSoft (s : State) : State :=
  if s.hc.fillState == .soft then
    s.onHc fun h => { h with softDone := softVolume s, fillState := .bypass, route := .bypass }
  else s

/-! ## Hardness sample and plan (R48 to R52) -/

/-- R49: the average of the readings, truncated. -/
def sampleMean (readings : List Nat) : Nat := readings.sum / readings.length

/-- R49 case 1: an average of 0 or 5000 is a cell fault. -/
def isCellFault (g : Nat) : Bool := g == 0 || g ≥ 5000

/-- R49 case 2 and R50: the inlet hardness of an average. -/
def hardnessOf (c : Configuration) (g : Nat) : Nat :=
  if isCellFault g then c.hfb else min 900 ((g - c.goff) * c.kh / 1024)

/-- The sample ends: Hin is formed, and a cell fault is marked (R49, R50). -/
def formHardness (s : State) : State :=
  match s.su.sample with
  | some p =>
    let g := sampleMean p.readings
    s.onSu fun u => { u with sample := none, hin := some (hardnessOf s.rp.cfg g), cellFault := isCellFault g }
  | none => s

/-- R51 case 1: the bed is usable for a plan. -/
def bedUsable (s : State) : Bool := (s.su.bed == .ready || s.su.bed == .depleted) && s.su.account > 0

/-- R51: the blend plan of a fill of target `v` at hardness `hin`. -/
def makePlan (s : State) (v hin : Nat) : BlendPlan :=
  let db := bypassVolume s
  let allBypass : BlendPlan := ⟨v, 0, s.su.account, db⟩
  if !bedUsable s || hin ≤ s.rp.cfg.hardnessTarget then allBypass
  else
    let vb := max (v * s.rp.cfg.hardnessTarget / hin) db
    if v ≤ vb then allBypass else ⟨vb, v - vb, s.su.account, db⟩

/-- R53: the predicted charge of a plan. -/
def chargeOf (soft hin : Nat) : Nat := ceilDiv (soft * hin) 100

/-- R51, R53: the plan is made and kept; with Vs above 0 the write gate is asked for. -/
def planFill (s : State) : State :=
  let hin := s.su.hin.getD 0
  let p := makePlan s s.hc.fillTarget hin
  let s := s.onSu fun u => { u with plan := some p }
  if p.vs > 0 then
    requestWrite none true false (s.onSu fun u => { u with gate := .requested, predicted := chargeOf p.vs hin })
  else s

/-- R29 case 3, R52 case 1: the switch to SOFT, once the bypass volume is Vb or more and the gate is open. A switch
whose first pulse would carry the soft volume past Vs is not made (DESIGN CHOICE, log entry 11). -/
def routeSwitch (s : State) : State :=
  match s.su.plan with
  | some p =>
    let by_ := bypassVolume s
    if fillValveOpen s && s.hc.fillState == .bypass && !s.hc.switched && s.su.gate == .opened && p.vs > 0
        && p.vb ≤ by_ && delivered s < s.hc.fillTarget then
      let vs := if p.vb < by_ then s.hc.fillTarget - by_ else p.vs
      let s := s.onSu fun u => { u with plan := some { p with vb := by_, vs := vs } }
      if volume s.rp.cfg (s.hc.pulses + 1) - delivered s ≤ vs then
        s.onHc fun h => { h with switched := true, softFrom := h.pulses, fillState := .soft, route := .soft }
      else s.onHc fun h => { h with switched := true }
    else s
  | none => s

/-! ## Charging (R55 to R57) -/

/-- R56: a charge that brings a READY bed's account to the reserve or below makes it DEPLETED and sets the want. -/
def depleteBed (s : State) : State :=
  if s.su.bed == .ready && s.su.account ≤ s.rp.cfg.reserve then
    setWant (s.onSu fun u => { u with bed := .depleted })
  else s

/-- R62 case 4: the first soft pulse while the re-arm mark is set sets the want and clears the mark. -/
def rearmWant (s : State) : State :=
  if s.su.rearm then setWant (s.onSu fun u => { u with rearm := false }) else s

/-- R55: the live account is A0 less the charge of the whole soft volume, 0 when that is negative. -/
def chargeSoft (s : State) : State :=
  match s.su.plan with
  | some p =>
    rearmWant (depleteBed (s.onSu fun u => { u with account := p.a0 - chargeOf (softVolume s) (u.hin.getD 0) }))
  | none => s

/-- R57: the soft volume at which the bed exhausts, and the hard-through-bed volume beyond it. -/
def hardThrough (a0 hin soft : Nat) : Nat := soft - a0 * 100 / hin

/-! ## The end of a fill (R30, R58, R59) -/

/-- R59: the effective hardness. -/
def heffOf (bypass hard hin actual : Nat) : Nat :=
  if actual == 0 then 0 else roundHalfUp ((bypass + hard) * hin) actual

/-- The volumes and hardness that the end of a fill writes (R30, R50, R58, R59). -/
def closedRecord (s : State) : FillRecord :=
  let actual := if s.hc.owner == .fill then delivered s else 0
  let soft := if s.hc.owner == .fill then softVolume s else 0
  let bypass := actual - soft
  let hin := if actual == 0 then 0 else s.su.hin.getD s.rp.cfg.hfb
  let hard := match s.su.plan with
    | some p => if soft == 0 then 0 else hardThrough p.a0 hin soft
    | none => 0
  ⟨s.hc.fillTarget, actual, bypass, soft, hard, hin, heffOf bypass hard hin actual⟩

/-- A fill that is WAITING or has the inlet. -/
def fillLive (s : State) : Bool := s.hc.fillState == .waiting || (s.hc.owner == .fill && fillOpen s.hc.fillState)

/-- A fill ends, by any cause: HC and SU write the fill record, the figures go to RP, the cell fault is reported, the
plan and the gate are cleared, and the fill-end write is asked for (R30, R58). -/
def closeFill (s : State) : State :=
  let s := formHardness s
  let f := closedRecord s
  let charged := match s.su.plan with
    | some p => p.a0 - s.su.account
    | none => 0
  let fault := s.su.cellFault
  let s := s.onCtx fun x => { x with fill := f }
  let s := onDraft s fun d => { d with fill := f, charged := charged, cellFault := fault }
  let s := s.onRp fun r => { r with water := r.water + f.actual }
  let s := if fault then raiseCondition .cellFault s else s
  let s := s.onSu fun u => { u with sample := none, hin := none, cellFault := false, plan := none, gate := .shut,
                                    predicted := 0 }
  let s := requestWrite none false false (forgetGateWrites s)
  let s := if s.hc.owner == .fill then releaseInlet s else s
  s.onHc fun h => { h with fillState := .closed }

/-- CS starts FILL: a fill of target `v` that waits for the inlet (R29). -/
def startFill (v : Nat) (s : State) : State :=
  s.onHc fun h => { h with fillState := .waiting, fillTarget := v, fillTimer := 0, noFlowTimer := 0,
                           planAsked := false, switched := false, softFrom := 0, softDone := 0 }

/-- R26, R29: the inlet is granted to a waiting fill; count and timers start at 0 and the route is BYPASS. -/
def grantFill (s : State) : State :=
  s.onHc fun h => { h with owner := .fill, route := .bypass, pulses := 0, fillState := .bypass, fillTimer := 0,
                           noFlowTimer := 0, softFrom := 0, softDone := 0 }

/-! ## The drain (R37, R38) -/

/-- A drain is asked for. One that runs already is that same drain, and now ends for the new asker. -/
def startDrain (who : DrainFor) (s : State) : State :=
  if s.hc.drainOn then s.onHc fun h => { h with drainFor := who }
  else
    s.onHc fun h => { h with drainOn := true, drainFor := who, drainEmpty := h.level == .empty,
                             drainEverEmpty := h.level == .empty, drainLingering := false, drainTimer := 0,
                             afterTimer := 0 }

/-- The end of the after-run: the drain's asking ends (R37). -/
def stopDrain (s : State) : State :=
  s.onHc fun h => { h with drainOn := false, drainFor := .nobody, drainEmpty := false, drainEverEmpty := false,
                           drainLingering := false, drainTimer := 0, afterTimer := 0 }

/-- A new level reading acts on the after-run of a running drain (R37). -/
def drainLevel (s : State) : State :=
  if s.hc.drainOn then
    if s.hc.level == .empty then
      if s.hc.drainEmpty then s
      else s.onHc fun h => { h with drainEmpty := true, drainEverEmpty := true, afterTimer := 0 }
    else s.onHc fun h => { h with drainEmpty := false, afterTimer := 0 }
  else s

/-! ## The diverter (R35, R36) -/

/-- The position a pattern asks for. -/
def patternPos : SprayPattern → DivPos
  | .upper => .upper
  | .lower => .lower
  | .both => .both
  | .alternate => .upper

/-- The ring the motor runs through: UPPER, BOTH, LOWER and back. -/
def nextPos : DivPos → DivPos
  | .upper => .both
  | .both => .lower
  | .lower => .upper
  | .between => .between

/-- A move to a position, when one is needed; a move under way is given the new position, its 8 s from 0 (DESIGN CHOICE,
log entry 70). -/
def moveDiverter (want : DivPos) (s : State) : State :=
  if s.hc.divPos == want && s.hc.divWanted.isNone then s
  else s.onHc fun h => { h with divWanted := some want, divTimer := 0 }

/-- R5, R35: the phase's pattern is handed to HC at FILL end, which makes the move it needs. -/
def setPattern (p : SprayPattern) (s : State) : State :=
  moveDiverter (patternPos p) (s.onHc fun h => { h with pattern := some p, divBlocked := false, altTimer := 0 })

end Sys2Proof.Machine
end

