-- ==== Sys2Proof/Machine/Dose.lean ====
section
/-! DEFINITION. The Dosing Unit (chapter 5): reservoirs, the dose arithmetic, strokes, the low-level cut, the end of a
job and refills. -/

namespace Sys2Proof.Machine

def tankOf (s : State) : Reservoir → Tank
  | .detergent => s.du.det
  | .rinseAid => s.du.rin

def onTank (res : Reservoir) (f : Tank → Tank) (s : State) : State :=
  match res with
  | .detergent => s.onDu fun d => { d with det := f d.det }
  | .rinseAid => s.onDu fun d => { d with rin := f d.rin }

def strokeOf (c : Configuration) : Reservoir → Nat
  | .detergent => c.detStroke
  | .rinseAid => c.rinStroke

def capacityOf (c : Configuration) : Reservoir → Nat
  | .detergent => c.detCapacity
  | .rinseAid => c.rinCapacity

def thresholdOf (c : Configuration) : Reservoir → Nat
  | .detergent => c.detLow
  | .rinseAid => c.rinLow

def onJob (f : DoseJob → DoseJob) (s : State) : State := s.onDu fun d => { d with job := d.job.map f }

/-! ## The dose arithmetic (R87, R88) -/

/-- R87 step 2: the soil scale in eighths. -/
def soilScale : Nat → Nat
  | 0 => 6
  | 1 => 8
  | 2 => 10
  | _ => 12

/-- R87: the detergent dose in dose units. -/
def detergentDose (c : Configuration) (v heff soil : Nat) : Nat :=
  let q := c.dBase + c.dHard * heff / 100
  min c.dMax (max c.dMin (ceilDiv (v * q * soilScale soil) 80000))

/-- R88: the rinse-aid dose in dose units. -/
def rinseAidDose (c : Configuration) (v : Nat) (plan : DryPlan) : Nat :=
  ceilDiv (v * c.rBase * (if plan == .closedDry then c.closedFactor else 100)) 1000000

/-- The dose of a job for the fill in the cycle context. -/
def doseFor (res : Reservoir) (s : State) : Nat :=
  match res with
  | .detergent => detergentDose s.rp.cfg s.cs.ctx.fill.actual s.cs.ctx.fill.heff s.cs.ctx.soilClass
  | .rinseAid => rinseAidDose s.rp.cfg s.cs.ctx.fill.actual s.cs.ctx.provisional

/-- The strokes of a dose (R87 step 5, R88 step 3). -/
def strokesFor (c : Configuration) (res : Reservoir) (dose : Nat) : Nat := ceilDiv (dose * 10) (strokeOf c res)

/-! ## Reservoirs (R83 to R85, R96) -/

/-- R96: the refill takes effect, and its write is asked for. -/
def refill (res : Reservoir) (s : State) : State :=
  requestWrite none false false
    (onTank res (fun t => { t with account := capacityOf s.rp.cfg res, known := true, exhausted := false,
                                   primed := false, held := false }) s)

/-- R96 cases 2 and 3: a dose job of the reservoir, or a running service stroke of its pump, holds the refill. -/
def refillHeld (res : Reservoir) (s : State) : Bool :=
  (s.du.job.any fun j => j.res == res) || s.du.svc.any fun v => v.res == res && v.stroking

/-- A held refill takes effect (R94 step 5, R96, R98), once neither holds it any more: with both a job and a service
stroke of the reservoir there (log entry 73), at the later of their ends. -/
def takeHeld (res : Reservoir) (s : State) : State :=
  if (tankOf s res).held && !refillHeld res s then refill res s else s

/-- R85, R89 case 1: a confirmed stroke is deducted from a known account, stopping at 0; an account brought to 0 while
the switch does not read low is exhausted. A stroke that finds the account at 0 already brings it nowhere, and leaves
the flag as it was (DESIGN CHOICE, log entry 80). -/
def deduct (stroke : Nat) (t : Tank) : Tank :=
  if t.known then
    { t with account := t.account - stroke,
             exhausted := t.exhausted || (t.account > 0 && t.account ≤ stroke && !t.low) }
  else t

/-- R84, R85: a debounced switch reading reconciles the account. -/
def reconcile (threshold : Nat) (low : Bool) (t : Tank) : Tank :=
  if t.low == low then t
  else if low then
    { t with low := true, exhausted := false, known := true,
             account := if t.known then min t.account threshold else threshold }
  else { t with low := false, exhausted := false }

/-- R92: a stroke of this reservoir is not made. -/
def cutLow (s : State) (res : Reservoir) : Bool :=
  (tankOf s res).known && (tankOf s res).low && (tankOf s res).account < strokeOf s.rp.cfg res

/-! ## The job (R86, R94) -/

/-- R5 case 3: the hold timer starts when HOLD has begun and no dose job runs. -/
def startHoldTimer (s : State) : State :=
  if s.cs.ctx.stage == .hold && s.du.job.isNone && !s.cs.holdStarted then
    s.onCs fun c => { c with holdStarted := true, holdTimer := 0 }
  else s

/-- R94 step 3: what the end of a job reports. -/
def reportDoseEnd (j : DoseJob) (e : DoseEnd) (s : State) : State :=
  match e with
  | .cutLow => raiseCondition (match j.res with | .detergent => .detergentLow | .rinseAid => .rinseAidLow) s
  | .pumpFault => raiseCondition .dosePump s
  | _ => s

/-- R94: the end of a job, step by step. The refill of step 5 finds the job ended. -/
def endJob (e : DoseEnd) (s : State) : State :=
  match s.du.job with
  | some j =>
    let s := onDraft s fun d =>
      { d with doseDelivered := d.doseDelivered + j.confirmed * strokeOf s.rp.cfg j.res,
               underdose := d.underdose || e == .cutLow || e == .pumpFault }
    let s := reportDoseEnd j e s
    let s := requestWrite none false false s
    startHoldTimer (takeHeld j.res (s.onDu fun d => { d with job := none }))
  | none => s

/-- R86, R88, R91: the job of a phase's dose, with the priming strokes it owes; a dose of 0 strokes is COMPLETE at
once. -/
def startJob (res : Reservoir) (s : State) : State :=
  let dose := doseFor res s
  let n := strokesFor s.rp.cfg res dose
  let priming := if (tankOf s res).primed || n == 0 then 0 else s.rp.cfg.primingStrokes
  let s := s.onDu fun d => { d with job := some ⟨res, dose, n, priming, 0, 0, .waiting, .unset, false, 0⟩ }
  if n == 0 then endJob .complete s else s

/-- A stroke begins: with no priming left the pump line counts as primed (R89, R91). -/
def beginStroke (j : DoseJob) (s : State) : State :=
  let s := onJob (fun x => { x with phase := .stroking, timer := 0 }) s
  if j.priming == 0 then onTank j.res (fun t => { t with primed := true }) s else s

/-- R95: the job is stopped while any pause reason stands, and asks for its load again when none does. -/
def syncDose (s : State) : State :=
  onJob (fun j =>
    if j.phase == .waiting && s.cs.ctx.pauses.any then { j with phase := .stopped }
    else if j.phase == .stopped && !s.cs.ctx.pauses.any then { j with phase := .waiting }
    else j) s

def pumpGranted (res : Reservoir) (s : State) : Bool :=
  match res with
  | .detergent => s.sa.grants.det
  | .rinseAid => s.sa.grants.rin

/-- A stroke of the dose job, or of the service exercise, is in progress (R89, R44). -/
def jobStroking (s : State) : Bool := s.du.job.any (·.phase == .stroking)
def serviceStroking (s : State) : Bool := s.du.svc.any (·.stroking)

/-- R90, R92: what a job does on its pump's grant: a stroke in progress is cut when the grant is withdrawn, and a
waiting stroke begins, or meets the low-level cut, when it is given, and not before (DESIGN CHOICE, log entry 77). A
service stroke still in progress is waited for (DESIGN CHOICE, log entry 73). -/
def serveDose (s : State) : State :=
  match s.du.job with
  | some j =>
    if j.phase == .stroking && !pumpGranted j.res s then
      if j.aborting then endJob .aborted s else onJob (fun x => { x with phase := .waiting, timer := 0 }) s
    else if j.phase == .waiting && pumpGranted j.res s && !serviceStroking s then
      if cutLow s j.res then endJob .cutLow s else beginStroke j s
    else s
  | none => s

/-- R89 case 1, R91: a confirmed stroke of the job. That of an aborting job ends it ABORTED (R95). -/
def confirmStroke (j : DoseJob) (s : State) : State :=
  let s := onTank j.res (deduct (strokeOf s.rp.cfg j.res)) s
  let s := if j.priming == 1 then onTank j.res (fun t => { t with primed := true }) s else s
  let confirmed := if j.priming > 0 then j.confirmed else j.confirmed + 1
  let s := onJob (fun x => { x with unconfirmed := 0, priming := x.priming - 1, confirmed := confirmed,
                                    phase := .resting, timer := 0 }) s
  if j.aborting then endJob .aborted s
  else if confirmed ≥ j.wanted then endJob .complete s
  else s

/-- R89 case 2, R93: a stroke not confirmed. That of an aborting job ends it ABORTED (R95). -/
def failStroke (j : DoseJob) (s : State) : State :=
  let s := onJob (fun x => { x with unconfirmed := x.unconfirmed + 1, phase := .resting, timer := 0 }) s
  if j.aborting then endJob .aborted s
  else if j.unconfirmed + 1 ≥ 3 then endJob .pumpFault s
  else s

/-- R95: an ABORT or fault ends the job, once the stroke in progress has ended. -/
def abortJob (s : State) : State :=
  match s.du.job with
  | some j => if j.phase == .stroking then onJob (fun x => { x with aborting := true }) s else endJob .aborted s
  | none => s

end Sys2Proof.Machine
end

