-- ==== Sys2Proof/Machine/Regen.lean ====
section
/-! DEFINITION. Regeneration up to the end of a step (chapter 4): placing, the steps and their stops, and the cut. What
the end of FLUSH reports to CS is in Machine/Cycle.lean. -/

namespace Sys2Proof.Machine

def onRegen (f : RegenRecord → RegenRecord) (s : State) : State := s.onSu fun u => { u with regen := u.regen.map f }

/-- R72, R74: the credit of a weak regeneration. -/
def weakCredit (c : Configuration) : Nat := c.bedCapacity * c.weakPercent / 100

/-- R71: the configured volume of a step. -/
def stepVolume (c : Configuration) : SeqState → Nat
  | .brine => c.brineVolume
  | .displace => c.displaceVolume
  | .flush => c.flushVolume
  | _ => 0

/-- The number of a step in the sense of R68. -/
def stepNum : SeqState → Nat
  | .brine => 1
  | .displace => 2
  | .flush => 3
  | _ => 0

/-- R72: the start of BRINE: the salt switch is read, the bed is BRINING, the write is asked for. -/
def startBrine (s : State) : State :=
  let low := s.pins.salt
  let credit := if low then weakCredit s.rp.cfg else s.rp.cfg.bedCapacity
  let s := onRegen (fun r => { r with seq := .brine, phase := .writeWait, vol := 0, time := 0, weak := low,
                                      credit := credit }) s
  let alone := s.su.regen.any (·.placement == .standalone)
  let s := if low then raiseCondition .saltLow s else s
  let s := s.onSu fun u => { u with bed := .brining }
  requestWrite (if alone then some true else none) false true s

/-- R71, R73: the start of DISPLACE or FLUSH. -/
def startRinse (step : SeqState) (s : State) : State :=
  let s := onRegen (fun r => { r with seq := step, phase := .inletWait, vol := 0, time := 0 }) s
  requestWrite none false false (s.onSu fun u => { u with bed := .rinsing })

/-- R65, R66, R69: a regeneration is placed. FULL ones are HELD until their step begins; a RECOVERY flush is weak and
begins at once with FLUSH. The step phase of a HELD record, which is in no step yet, reads STOPPED, and originator and
tag of a record that is not STANDALONE are 0 (DESIGN CHOICE, log entry 52). -/
def placeRegen (p : Placement) (src tag : Nat) (s : State) : State :=
  let r : RegenRecord :=
    { placement := p, full := p != .recovery, seq := .held, phase := .stopped, vol := 0, time := 0,
      hold := tankReserve s, weak := p == .recovery, credit := if p == .recovery then weakCredit s.rp.cfg else 0,
      steps := 0, water := 0, originator := src, tag := tag }
  let s := s.onSu fun u => { u with regen := some r }
  if p == .recovery then startRinse .flush s
  else if p == .inCycle then startBrine s
  else s

/-- R77: what stops a step: the supply hold, and in RUNNING or PAUSED any pause reason. -/
def regenStopped (s : State) (r : RegenRecord) : Bool := r.hold || (inCycle s && s.cs.ctx.pauses.any)

/-- R66, R69, R70, R77: a HELD regeneration begins with BRINE as its supply hold clears. R8 says the same of the pause set
that EXIT leaves, which holds SUPPLY alone. A pause reason that has joined it while HELD changes nothing of that (R77);
from then on it stops the step, so that no water flows until the pause set is empty (DEDUCED, log entry 35). A step
stops and goes on as the reasons come and go. -/
def syncRegen (s : State) : State :=
  match s.su.regen with
  | some r =>
    if r.seq == .held then
      if r.hold then s else startBrine s
    else if r.phase == .writeWait then s
    else if regenStopped s r then onRegen (fun x => { x with phase := .stopped }) s
    else if r.phase == .stopped then
      onRegen (fun x => { x with phase := if s.hc.owner == .regen then .flowing else .inletWait }) s
    else s
  | none => s

/-- R71: DISPLACE and FLUSH pass the bed. -/
def stepRoute : SeqState → Route
  | .displace => .soft
  | .flush => .soft
  | _ => .bypass

/-- R26, R71 case 2: the inlet is granted to a waiting step. -/
def grantStep (r : RegenRecord) (s : State) : State :=
  onRegen (fun x => { x with phase := .flowing, vol := 0 })
    (s.onHc fun h => { h with owner := .regen, route := stepRoute r.seq, pulses := 0 })

/-- R26: a request is granted at once when the owner is FREE; that of a fill which waits in a pause, once no pause reason
stands (DESIGN CHOICE, log entry 61). -/
def grantInlet (s : State) : State :=
  if s.hc.owner == .free then
    match s.su.regen with
    | some r =>
      if r.phase == .inletWait && r.seq != .held then grantStep r s
      else if s.hc.fillState == .waiting && !s.hc.drainOn && moving s then grantFill s
      else s
    | none => if s.hc.fillState == .waiting && !s.hc.drainOn && moving s then grantFill s else s
  else s

/-- R76: the regeneration's report entry. -/
def reportRegen (r : RegenRecord) (credit : Nat) (s : State) : State :=
  addReport (.regeneration r.placement r.steps r.water credit r.weak) s

/-- R68, R168: the completion of a standalone regeneration, and the clearing of its flag. Its credit is the record's,
at a cut too (R65; of a record cut while HELD it is 0: DEDUCED, log entry 53). -/
def endStandalone (r : RegenRecord) (sense : Sense) (s : State) : State :=
  if r.placement == .standalone then
    complete ⟨r.originator, r.tag, .regenerationEnd, 0, sense,
        [r.steps] ++ be2 r.water ++ be3 r.credit ++ [if r.weak then 1 else 0]⟩
      (s.onSu fun u => { u with regenerating := false })
  else s

/-- The regeneration water of a cycle (R177). -/
def countRegenWater (r : RegenRecord) (s : State) : State :=
  if cycleOn s then s.onRp fun x => { x with water := x.water + r.water } else s

/-- A step's inlet is released and its valves close. -/
def releaseStep (s : State) : State := if s.hc.owner == .regen then releaseInlet s else s

/-- R71, R79: a begun regeneration is cut: the inlet is released, the bed is SALTED and the want set, the cut write and
the report entry are asked for, and a standalone one completes with the sense given. -/
def cutBegun (r : RegenRecord) (sense : Sense) (s : State) : State :=
  let r := { r with seq := .ended, water := r.water + r.vol }
  let s := forgetBrineWrites (releaseStep s)
  let s := setWant (s.onSu fun u => { u with bed := .salted, regen := none })
  let s := requestWrite (if r.placement == .standalone then some false else none) false false s
  endStandalone r sense (reportRegen r 0 (countRegenWater r s))

/-- R79 case 2: a HELD regeneration is cleared without a report entry; a standalone one sends its completion. -/
def cutHeld (r : RegenRecord) (sense : Sense) (s : State) : State :=
  endStandalone r sense (s.onSu fun u => { u with regen := none })

end Sys2Proof.Machine
end

