-- ==== Sys2Proof/Machine/Arm.lean ====
section
/-! DEFINITION. The door arm and the motion test (chapter 8): permission, the drying plans, the moves of the arm, and
what ends drying without a report to CS. What reports to CS is in Machine/Drying.lean. -/

namespace Sys2Proof.Machine

def onRecord (f : DryRecord → DryRecord) (s : State) : State := s.onDc fun d => { d with record := d.record.map f }

/-! ## Motion permission (R137) -/

/-- A motion part passes: its level and the magnitude of its tilt lie at or below the limits. -/
def motionPasses (c : Configuration) (m : MotionPart) : Bool :=
  m.level ≤ c.motionLevelLimit && m.tilt.natAbs ≤ c.tiltLimit

/-- The valid motion parts of the view. -/
def validMotion (s : State) : List MotionPart := (s.sa.view.filterMap (·.motion)).filter (·.valid)

/-- R137: motion is permitted when there is a valid part and every valid part passes, or when there is none and the
no-motion-station flag is set. -/
def motionPermitted (s : State) : Bool :=
  if (validMotion s).isEmpty then s.rp.cfg.noMotionStation else (validMotion s).all (motionPasses s.rp.cfg)

/-! ## Plans (R138, R140) -/

/-- R138: the door-open wish of the last record of the list; none when that record is not DRY. -/
def lastWantsOpen (s : State) : Bool :=
  match s.cs.list.getLast? with
  | some r => r.kind == .dry && ((r.drying.map (·.wantOpen)).getD s.rp.cfg.defaultWantOpen)
  | none => false

/-- R138: DC sets the provisional drying plan. -/
def setProvisional (s : State) : State :=
  let plan := if lastWantsOpen s && motionPermitted s then DryPlan.openDry else .closedDry
  s.onCtx fun x => { x with provisional := plan }

/-- R140: the final drying plan. -/
def finalPlan (s : State) (r : DryRecord) : DryPlan :=
  if r.wantOpen && motionPermitted s && s.dc.door == .latched && s.dc.arm == .home then .openDry else .closedDry

/-! ## Moves (R141, R146, R150) -/

/-- R136: a running arm motor is off. With the HOME switch closed a retraction leaves the arm at HOME, after a stall too
(DEDUCED, log entry 68), and otherwise STOPPED. An extension is away from HOME (log entry 28). -/
def haltArm (home : Bool) : ArmState → ArmState
  | .extending => .stopped
  | .retracting => if home then .home else .stopped
  | a => a

/-- Every output of DC's actuator goes off; the arm stays where it is. -/
def stillArm (s : State) : State :=
  s.onDc fun d =>
    { d with move := .still, held := false, lrelOn := false, lrelTimer := 0, arm := haltArm s.pins.home d.arm }

/-- R139, R140: the drying record of a DRY phase, CONDENSE begun. A parking move under way or waiting ends: the arm is
not moved in CONDENSE (R150). Destination, eligibility, stall mark, vent timer and settle timer, which the rules write
only later, start as VENT-CLOSED, clear, clear, 0 and 0 (DESIGN CHOICE, log entry 55). -/
def startDrying (p : Option DryingPart) (s : State) : State :=
  let q := p.getD ⟨s.rp.cfg.defaultCondense, s.rp.cfg.defaultVent, s.rp.cfg.defaultWantOpen⟩
  (stillArm s).onDc fun d =>
    { d with record := some { condense := q.condense, vent := q.vent, wantOpen := q.wantOpen, stage := .condense,
                              condenseTimer := 0, ventTimer := 0, closingTo := .ventClosed, eligible := false,
                              reopens := 0, stall := false, outcome := .unset },
             settle := 0, fanTicks := 0 }

/-- R141: the stage becomes OPENING, and the latch release is asked for. -/
def startOpening (s : State) : State :=
  (onRecord (fun r => { r with stage := .opening }) s).onDc fun d =>
    { d with move := .release, held := false, lrelTimer := 0, lrelOn := false, travel := 0 }

/-- R142 to R144, R146, R147, R149: the stage becomes CLOSING toward a destination, and the retraction is asked for. The
re-open eligible mark is set as R142 to R144 give it for VENT-CLOSED; toward END and WIND-DOWN, where the rules are
silent, callers clear it (DESIGN CHOICE, log entry 81). -/
def startClosing (dest : ClosingTo) (eligible : Bool) (s : State) : State :=
  (onRecord (fun r => { r with stage := .closing, closingTo := dest, eligible := eligible }) s).onDc fun d =>
    { d with move := .close, held := false, lrelOn := false, lrelTimer := 0, travel := 0,
             arm := haltArm s.pins.home d.arm }

/-- R145: entry into VENT-CLOSED, where the settle timer starts at 0. -/
def enterVentClosed (eligible : Bool) (s : State) : State :=
  (onRecord (fun r => { r with stage := .ventClosed, eligible := eligible }) (stillArm s)).onDc fun d =>
    { d with settle := 0 }

/-- A drying stage runs (R148's five stages). -/
def dryingLive (s : State) : Bool := s.dc.record.any (·.stage != .ended)

/-- R149: an ABORT or fault ends drying. Away from HOME in OPENING, VENT or CLOSING the arm pulls the door to LATCHED;
after a stall in CLOSING no movement is made. Away from HOME in CONDENSE or VENT-CLOSED, which R149 does not name, no
CLOSING is made, and the parking move brings the arm home (DESIGN CHOICE, log entry 56). A CLOSING that begins here has
the re-open eligible mark clear, and one under way keeps it (DESIGN CHOICE, log entry 81). A CLOSING of an earlier
wind-down is no drying of this cycle and goes on by itself (DEDUCED, log entry 39). -/
def abortDrying (stalled : Bool) (s : State) : State :=
  match s.dc.record with
  | some r =>
    if r.stage == .ended || windingDown r then s
    else if !stalled && (r.stage == .opening || r.stage == .vent || r.stage == .closing) && s.dc.arm != .home then
      let s := if r.stage == .closing then onRecord (fun x => { x with closingTo := .windDown }) s
        else startClosing .windDown false s
      s.onCs fun c => { c with doorMoving := true }
    else onRecord (fun x => { x with stage := .ended }) (stillArm s)
  | none => s

/-- R149: in the wind-down that follows a stall in CLOSING the arm stays STOPPED (log entry 18). -/
def armStays (s : State) : Bool := s.cs.state == .aborting && s.dc.closingStalled

/-- R150: the parking move brings an arm left away from HOME back, while no drying stage runs. -/
def parkArm (s : State) : State :=
  if s.rp.configured && !dryingLive s && !armStays s && s.dc.move == .still && !s.dc.leftAjar
      && (s.dc.arm == .stopped || s.dc.arm == .atGap) then
    s.onDc fun d => { d with move := .park, travel := 0 }
  else s

/-- R141: the grant of an opening returns: with the door still LATCHED the 0.5 s of latch release is made again, and
otherwise the opening goes on where it was held, whatever end switch was read meanwhile (DESIGN CHOICE, log entry
67). -/
def resumeOpening (s : State) : State :=
  s.onDc fun d =>
    if d.door == .latched then { d with held := false, move := .release, lrelTimer := 0 }
    else { d with held := false, arm := if d.move == .extend then .extending else d.arm }

/-- R136: what the arm does on its grant. A withdrawn grant halts the move, its timers kept until the grant returns. -/
def serveArm (s : State) : State :=
  let g := s.sa.grants.actuator
  match s.dc.move with
  | .still => s
  | .release | .extend =>
    if g then (if s.dc.held then resumeOpening s else s)
    else s.onDc fun d => { d with held := true, arm := haltArm s.pins.home d.arm }
  | .close | .park =>
    s.onDc fun d => { d with arm := if g then .retracting else haltArm s.pins.home d.arm }

end Sys2Proof.Machine
end

