-- ==== Sys2Proof/Machine/Cycle.lean ====
section
/-! DEFINITION. The Cycle Sequencer (chapter 1) and RECOVERY (R175): phase entry and exit, amendments, the stages, the
end of a cycle, aborts and faults, and what the end of a regeneration reports. -/

namespace Sys2Proof.Machine

/-! ## The end of a cycle (R24) -/

/-- The outcome of a cycle that ends: the wind-down's, or by whether a condition was raised. -/
def endOutcome (x : CycleContext) : CycleOutcome :=
  match x.outcome with
  | .unset => if x.firstCondition.isNone then .done else .doneWithConditions
  | o => o

/-- The sense CYCLE END carries. -/
def endSense (x : CycleContext) : Sense :=
  match endOutcome x with
  | .doneWithConditions => x.firstCondition.getD noSense
  | .aborted => ⟨.abortOrder, x.phase⟩
  | .faulted => x.firstFault.getD noSense
  | _ => noSense

/-- R177: the energy of the cycle in Wh, truncated, from W times ticks. -/
def energyWh (e : Nat) : Nat := e / 14400

/-- R24: the end of the cycle, its four steps in their order. -/
def endCycle (s : State) : State :=
  let outcome := endOutcome s.cs.ctx
  let sense := endSense s.cs.ctx
  let s := s.onCs fun c =>
    { c with state := .ended, amendments := [], groups := [], drainHeld := false, fillHeld := false,
             holdStarted := false, finalDrain := .notStarted, doorMoving := false,
             ctx := { c.ctx with stage := .idle, outcome := outcome } }
  let s := addReport (.summary outcome s.rp.water (energyWh s.rp.energy) s.rp.dropped) s
  let s := requestWrite (some false) false false s
  completeToOwner s.cs.ctx.startTag .cycleEnd outcome.num sense [s.cs.ctx.phase] s

/-! ## Amendments at ENTRY (R12, R14, R15, R16) -/

/-- Clamped values written into their target records. -/
def writeEntries (es : List AmendEntry) (l : List PhaseRecord) : List PhaseRecord :=
  es.foldl (fun l e => l.modify e.target (amendRecord e.field e.value)) l

/-- R16: one completion to the owner for a void entry or group. -/
def voidCompletion (tag target : Nat) (s : State) : State :=
  completeToOwner tag .amendmentVoid 0 ⟨.amendmentVoid, target⟩ [] s

/-- R14 case 1: an ungrouped ON TIME entry with a target of k or above. -/
def isTaken (k : Nat) (e : AmendEntry) : Bool := e.group.isNone && e.mark == some .onTime && k ≤ e.target

/-- R14 case 2: an ungrouped LATE entry with a target of k. -/
def isVoid (k : Nat) (e : AmendEntry) : Bool := e.group.isNone && e.mark == some .late && e.target == k

/-- R14: each ungrouped entry at ENTRY of phase k. -/
def takeUngrouped (k : Nat) (s : State) : State :=
  let taken := s.cs.amendments.filter (isTaken k)
  let voids := s.cs.amendments.filter (isVoid k)
  let s := s.onCs fun c =>
    { c with list := writeEntries taken c.list,
             amendments := c.amendments.filter fun e => !isTaken k e && !isVoid k e }
  voids.foldl (fun s e => voidCompletion e.tag e.target s) s

def membersOf (g : AmendGroup) (es : List AmendEntry) : List AmendEntry := es.filter (·.group == some g.num)

/-- R15: one group at ENTRY of phase k; OPEN and RELEASED LATE groups are left. -/
def takeGroup (k : Nat) (s : State) (g : AmendGroup) : State :=
  if g.state != .releasedOnTime then s
  else
    let ms := membersOf g s.cs.amendments
    let passed := ms.filter fun e => e.target < k
    let s1 := s.onCs fun c =>
      { c with list := if passed.isEmpty then writeEntries ms c.list else c.list,
               amendments := c.amendments.filter (·.group != some g.num),
               groups := c.groups.filter (·.num != g.num) }
    match passed.map (·.target) with
    | [] => s1
    | t :: ts => voidCompletion g.tag (ts.foldl min t) s1

/-- R12: every remaining LATE entry becomes ON TIME, and every group RELEASED LATE becomes RELEASED ON TIME. -/
def remark (s : State) : State :=
  s.onCs fun c =>
    { c with amendments := c.amendments.map fun e => { e with mark := e.mark.map fun _ => .onTime },
             groups := c.groups.map fun g =>
               { g with state := if g.state == .releasedLate then .releasedOnTime else g.state } }

/-- R6 steps 1 and 2: the amendments taken at ENTRY of phase k. The void entries complete first, in the set's order, and
then the void groups, in the order of their opening (DESIGN CHOICE, log entry 48). -/
def takeAmendments (k : Nat) (s : State) : State :=
  let s := takeUngrouped k s
  remark (s.cs.groups.foldl (takeGroup k) s)

/-! ## ENTRY and EXIT (R6, R8, R17) -/

/-- R125: the phase target, with the closed-dry offset of a heated FINALRINSE under CLOSED-DRY. -/
def phaseTarget (s : State) (r : PhaseRecord) : Nat :=
  if r.temp == 0 then 0
  else if r.kind == .finalrinse && s.cs.ctx.provisional == .closedDry then min 750 (r.temp + s.rp.cfg.closedOffset)
  else r.temp

/-- R125, R133: TC's figures of the phase start at 0; with them setpoint, regulation and the timers of HEAT, which R126
and R130 set at the starts of HEAT and HOLD (DESIGN CHOICE, log entry 69). -/
def startFigures (target : Nat) (s : State) : State :=
  s.onTc fun t => { t with target := target, setpoint := target, regOn := false, elementOn := 0, supplyWait := 0,
                           peak := 0, waitTicks := 0, stage1Ticks := 0, stage2Ticks := 0, under := false }

/-- R6: ENTRY of phase k, its steps in their order. -/
def enterPhase (k : Nat) (s : State) : State :=
  let s := s.onCs fun c =>
    { c with ctx := { c.ctx with phase := k, stage := .entry }, drainHeld := false, fillHeld := false,
             holdStarted := false, holdTimer := 0 }
  let s := takeAmendments k s
  match s.cs.list[k]? with
  | some r =>
    let s := onDraft s fun _ => PhaseDraft.zero
    let s := s.onHc fun h => { h with circTime := 0 }
    let s := if r.kind == .finalrinse || (r.kind == .dry && s.cs.ctx.provisional == .unset) then setProvisional s else s
    let s := startFigures (phaseTarget s r) s
    if r.kind == .dry then startDrying r.drying (s.onCtx fun x => { x with stage := .drying })
    else startFill r.fill (s.onCtx fun x => { x with stage := .fill })
  | none => s

/-- R133, R177: the phase entry that HC, SU, DU, DC and TC hand over at EXIT. Its seconds are made of ticks, and a part
of a second is dropped: of the elapsed and the supply-wait time (DESIGN CHOICE, log entry 76) as of the energized seconds
(log entry 54). -/
def phaseEntryOf (s : State) (r : PhaseRecord) : ReportEntry :=
  .phase s.cs.ctx.phase r.kind s.tc.under { s.rp.draft with elapsed := s.rp.draft.elapsed / 4 } s.tc.peak
    (s.tc.waitTicks / 4) (s.tc.stage1Ticks / 4) (s.tc.stage2Ticks / 4)

/-- R17: the conditions under which a copy of the record is inserted. -/
def insertsRinse (s : State) (r : PhaseRecord) : Bool :=
  s.cs.state == .running && r.kind == .rinse && r.soil && r.ext && (s.cs.ctx.soilClass == 2 || s.cs.ctx.soilClass == 3)
    && s.cs.list.length < 12 && s.cs.ctx.inserted < 2

/-- R17: a copy of record k, its extendable flag clear, at index k+1. -/
def insertRinse (k : Nat) (r : PhaseRecord) (s : State) : State :=
  let s := s.onCs fun c =>
    { c with list := c.list.take (k + 1) ++ [{ r with ext := false }] ++ c.list.drop (k + 1),
             loadIndex := if k < c.loadIndex then c.loadIndex + 1 else c.loadIndex,
             amendments := c.amendments.map fun e => { e with target := if k < e.target then e.target + 1 else e.target },
             ctx := { c.ctx with inserted := c.ctx.inserted + 1 } }
  completeToOwner s.cs.ctx.startTag .phaseInserted 0 noSense [k + 1] s

/-- R8: EXIT of the phase the context stands at. -/
def exitPhase (s : State) : State :=
  let k := s.cs.ctx.phase
  let s := s.onCtx fun x => { x with stage := .exit }
  match s.cs.list[k]? with
  | some r =>
    let s := addReport (phaseEntryOf s r) s
    let s := if insertsRinse s r then insertRinse k r s else s
    if k + 1 < s.cs.list.length then enterPhase (k + 1) s
    else if s.cs.ctx.regenWanted && !s.cs.ctx.regenDone then
      placeRegen .postCycle 0 0 (s.onCtx fun x => { x with stage := .regen })
    else endCycle s
  | none => endCycle s

/-! ## Stages (R5, R7) -/

/-- HOLD begins: its timer, readings and regulation start afresh (R5 case 3, R41, R130). -/
def beginHold (s : State) : State :=
  let s := s.onCs fun c => { c with holdStarted := false, holdTimer := 0, ctx := { c.ctx with stage := .hold } }
  let s := s.onHc fun h => { h with turbCount := 0, turbClass := none }
  startHoldTimer (s.onTc fun t => { t with regOn := false })

/-- R126, R131: HEAT begins, and ends at once when the water stands at the target or the heater is disabled. -/
def beginHeat (s : State) : State :=
  let s := s.onCtx fun x => { x with stage := .heat }
  let s := s.onTc fun t => { t with elementOn := 0, supplyWait := 0, setpoint := t.target }
  if s.tc.disabled then beginHold (s.onTc fun t => { t with under := true })
  else if s.tc.target ≤ s.tc.tub then beginHold s
  else s

/-- R5 case 1: what CS does at FILL end. -/
def advanceFill (s : State) : State :=
  match currentRecord s with
  | some r =>
    let s := setPattern r.pattern (s.onCs fun c => { c with fillHeld := false })
    let s := match r.dose with
      | .noDose => s
      | .detergent => startJob .detergent s
      | .rinseAid => startJob .rinseAid s
    if s.tc.target > 0 then beginHeat s else beginHold s
  | none => s

/-- R30: the end of a fill, reported to CS; in a pause the stage's advance is held (R20). -/
def endFill (s : State) : State :=
  let s := closeFill s
  if moving s then advanceFill s
  else if inCycle s then s.onCs fun c => { c with fillHeld := true }
  else s

/-- R30 case 2: an open fill of the stage FILL whose level reads HIGH ends, before its target: at the reading, or at once
when the inlet is granted to it at a level that reads HIGH already. -/
def endFullFill (s : State) : State :=
  if s.cs.ctx.stage == .fill && s.hc.owner == .fill && fillOpen s.hc.fillState && s.hc.level == .high then endFill s
  else s

/-- R5 cases 4 and 5: HOLD ends, the soil class of a soil-sense phase is latched, and the cut begins DRAIN. -/
def cutPhase (s : State) : State :=
  let soil := (currentRecord s).any (·.soil)
  let s := match soil, s.hc.turbCount, s.hc.turbClass with
    | true, _ + 1, some c => s.onCtx fun x => { x with soilClass := c }
    | _, _, _ => s
  let s := s.onCs fun c => { c with holdStarted := false, ctx := { c.ctx with stage := .drain } }
  let s := s.onHc fun h => { h with pattern := none }
  startDrain .cut s

/-- R7: what follows the DRAIN end of a phase while RUNNING. -/
def advanceDrain (s : State) : State :=
  let s := s.onCs fun c => { c with drainHeld := false }
  if (currentRecord s).any (·.regen) && s.cs.ctx.regenWanted && !s.cs.ctx.regenDone && !tankReserve s then
    placeRegen .inCycle 0 0 (s.onCtx fun x => { x with stage := .regen })
  else exitPhase s

/-! ## Abort and fault (R22, R23) -/

/-- R22: the wind-down of the stage that runs, the outcome set by the caller. The final drain starts once no
regeneration runs on (Machine/Settle.lean, `windDown`). -/
def windDownCycle (stalled : Bool) (s : State) : State :=
  let s := s.onCs fun c =>
    { c with state := .aborting, finalDrain := if c.drainHeld then .ended else .notStarted, doorMoving := false,
             drainHeld := false, fillHeld := false, ctx := { c.ctx with pauses := PauseSet.empty } }
  let s := if fillLive s then closeFill s else s
  let s := abortJob s
  let s := match s.su.regen with
    | some r => if r.seq == .held then s.onSu fun u => { u with regen := none } else s
    | none => s
  abortDrying stalled s

/-- R22 case 1: an ABORT taken in RUNNING or PAUSED. -/
def abortCycle (s : State) : State := windDownCycle false (s.onCtx fun x => { x with outcome := .aborted })

/-- R23: a fault reported by a block. -/
def faultCycle (sense : Sense) (stalled : Bool) (s : State) : State :=
  let s1 := s.onCtx fun x => { x with outcome := .faulted, firstFault := x.firstFault.or (some sense) }
  if inCycle s then windDownCycle stalled s1
  else if s.cs.state == .aborting then s1
  else s

/-- A fault whose qualifier is the phase index. -/
def fault (cause : Cause) (s : State) : State := faultCycle ⟨cause, s.cs.ctx.phase⟩ false s

/-! ## RECOVERY (R66, R175) -/

/-- R175 step 3: RECOVERY, where it holds, ends. -/
def endRecovery (s : State) : State :=
  if s.cs.state == .recovery then
    (s.onRp fun r => { r with recovery := some .done }).onCs fun c => { c with state := .empty }
  else s

/-- R175 step 1: entry into RECOVERY. -/
def enterRecovery (s : State) : State :=
  startDrain .recovery
    ((s.onRp fun r => { r with recovery := some .drain }).onCs fun c => { c with state := .recovery })

/-- R175: the write that clears the cycle-in-progress flag at the end of the RECOVERY drain. -/
def writeRecovered (s : State) : State := requestWrite (some false) false false s

/-- R66, R175: the end of the RECOVERY drain; a flush is placed when the bed is SALTED, the leak latch clear and no tank
reserve active. -/
def endRecoveryDrain (s : State) : State :=
  let s := writeRecovered s
  if s.su.bed == .salted && !s.hc.leakLatch && !tankReserve s then
    placeRegen .recovery 0 0 (s.onRp fun r => { r with recovery := some .flush })
  else endRecovery s

/-! ## The end of a drain (R37) and of a regeneration step (R71, R74) -/

/-- R37: the end of the after-run is reported to the block that asked for the drain. -/
def endDrain (s : State) : State :=
  let who := s.hc.drainFor
  let s := stopDrain s
  match who with
  | .cut =>
    if moving s then advanceDrain s
    else if inCycle s then s.onCs fun c => { c with drainHeld := true }
    else s
  | .final => s.onCs fun c => { c with finalDrain := .ended }
  | .recovery => endRecoveryDrain s
  | .nobody => s

/-- R74 step 5: the end reported to whoever placed the regeneration. -/
def reportFlush (r : RegenRecord) (s : State) : State :=
  match r.placement with
  | .inCycle =>
    let s := s.onCtx fun x => { x with regenDone := true }
    if inCycle s then exitPhase s else s
  | .postCycle => if inCycle s then endCycle s else s
  | .standalone => endStandalone r (if r.weak then ⟨.saltLow, 255⟩ else noSense) s
  | .recovery => endRecovery s

/-- R74: the end of FLUSH credits the bed. -/
def endFlush (r : RegenRecord) (s : State) : State :=
  let low : Bool := r.credit ≤ s.rp.cfg.reserve
  let s := clearWant (s.onSu fun u =>
    { u with account := r.credit, bed := if low then .depleted else .ready, rearm := low, regen := none,
             regenCount := if r.full then min 65535 (u.regenCount + 1) else u.regenCount })
  let s := requestWrite (if r.placement == .standalone then some false else none) false false s
  reportFlush r (reportRegen r r.credit (countRegenWater r s))

/-- R71 case 4: the pulse that ends a step; the next step begins, or the regeneration ends. -/
def endStep (r : RegenRecord) (s : State) : State :=
  let r := { r with steps := r.steps + 1, water := r.water + r.vol, vol := 0 }
  let s := onRegen (fun _ => r) (releaseStep s)
  match r.seq with
  | .brine => startRinse .displace (requestWrite none false false s)
  | .displace => startRinse .flush (requestWrite none false false s)
  | _ => endFlush r s

/-! ## The user's door (R18) -/

/-- R18: the door leaves LATCHED in a phase other than DRY. -/
def doorPause (was : Door) (s : State) : State :=
  if was == .latched && s.dc.door != .latched && inCycle s && !inDryPhase s then
    s.onCtx fun x => { x with pauses := { x.pauses with userDoor := true } }
  else s

end Sys2Proof.Machine
end

