-- ==== Sys2Proof/Machine/Drying.lean ====
section
/-! DEFINITION. Drying as it reports to CS (chapter 8): the ends of CONDENSE, of an opening, of a closing and of the
vent time, the user's door, stalls, and what a change of motion permission does. -/

namespace Sys2Proof.Machine

/-- R147, R148: the end of drying: the fan's request ends, RP takes the figures, and CS goes to EXIT. A part of a second
of fan time is dropped (DESIGN CHOICE, log entry 76). -/
def endDrying (outcome : DoorOutcome) (s : State) : State :=
  let s := onRecord (fun r => { r with stage := .ended, outcome := outcome }) (stillArm s)
  let reopens := (s.dc.record.map (·.reopens)).getD 0
  let plan := s.cs.ctx.final
  let fan := s.dc.fanTicks / 4
  let s := onDraft s fun d => { d with finalPlan := plan, reopens := reopens, doorOutcome := outcome, fanSeconds := fan }
  if s.cs.state == .running then exitPhase s else s

/-- An end of drying that leaves the door AJAR sets the left-ajar mark (R147, R150). -/
def endAjarOrLatched (s : State) : State :=
  if s.dc.door == .ajar then endDrying .leftAjar (s.onDc fun d => { d with leftAjar := true }) else endDrying .latched s

/-- R147: the vent timer reaches the vent time. A CLOSING that begins here, to END, has the re-open eligible mark clear,
and one under way keeps it (DESIGN CHOICE, log entry 81). -/
def endVent (s : State) : State :=
  match s.dc.record with
  | some r =>
    let close := s.rp.cfg.closeAfterVent
    match r.stage with
    | .vent =>
      if close then startClosing .finish false s
      else endDrying .leftAjar (s.onDc fun d => { d with leftAjar := true })
    | .opening =>
      if close then
        if s.dc.arm == .home then endDrying .latched s else startClosing .finish false s
      else endAjarOrLatched s
    | .ventClosed => endAjarOrLatched s
    | .closing =>
      if r.closingTo == .windDown then s else onRecord (fun x => { x with closingTo := .finish }) s
    | .condense | .ended => s
  | none => s

/-- R140: the end of CONDENSE: the final plan is taken and the vent timer starts; a vent time of 0 is its end too. -/
def endCondense (s : State) : State :=
  match s.dc.record with
  | some r =>
    let plan := finalPlan s r
    let s := s.onCtx fun x => { x with final := plan }
    let s := onRecord (fun x => { x with ventTimer := 0 }) s
    let s := if plan == .openDry then startOpening s else enterVentClosed false s
    if r.vent == 0 then endVent s else s
  | none => s

/-- CONDENSE runs and has reached its end by time and temperature, or by twice the time (R140 cases 1 to 3). -/
def condenseOver (s : State) : Bool :=
  s.cs.state == .running && s.dc.record.any fun r =>
    r.stage == .condense && ticks r.condense ≤ r.condenseTimer
      && (s.tc.tub ≤ s.rp.cfg.openTemp || 2 * ticks r.condense ≤ r.condenseTimer)

/-- R145: all that a re-opening needs. -/
def mayReopen (s : State) : Bool :=
  s.cs.state == .running && s.dc.permitted && s.dc.door == .latched && s.dc.arm == .home
    && ticks s.rp.cfg.settleTime ≤ s.dc.settle
    && s.dc.record.any fun r =>
      r.stage == .ventClosed && r.eligible && r.reopens < s.rp.cfg.reopenLimit && !r.stall
        && r.ventTimer < ticks r.vent

/-- R145: the door is re-opened. -/
def reopen (s : State) : State :=
  if mayReopen s then startOpening (onRecord (fun r => { r with reopens := r.reopens + 1 }) s) else s

/-- R142, R144, R145: a motion loss. -/
def motionLoss (s : State) : State :=
  let s := s.onDc fun d => { d with permitted := false, settle := 0 }
  match s.dc.record with
  | some r =>
    match r.stage with
    | .opening => if s.dc.arm == .home then enterVentClosed true s else startClosing .ventClosed true s
    | .vent => startClosing .ventClosed true s
    | .condense | .ventClosed | .closing | .ended => s
  | none => s

/-- R145: a motion gain starts the settle timer at 0. -/
def motionGain (s : State) : State := s.onDc fun d => { d with permitted := true, settle := 0 }

/-- R137: permission is evaluated afresh; its change is a motion loss or a motion gain. -/
def evaluateMotion (s : State) : State :=
  if s.dc.permitted then (if motionPermitted s then s else motionLoss s)
  else if motionPermitted s then motionGain s else s

/-- R146: what ends a CLOSING: the door LATCHED and HOME read; in a wind-down with the door OPEN, HOME alone. The door
is taken as it reads at that moment, whatever it read before (DESIGN CHOICE, log entry 66). With both read already the
CLOSING ends as it begins, no grant waited for (DESIGN CHOICE, log entry 79). -/
def closingDone (s : State) : Bool :=
  s.dc.move == .close && s.pins.home && s.dc.record.any fun r =>
    r.stage == .closing && (s.dc.door == .latched || (r.closingTo == .windDown && s.dc.door == .opened))

/-- R146: a CLOSING that has reached its end goes on by its destination. -/
def finishClosing (s : State) : State :=
  if closingDone s then
    let s := s.onDc fun d => { d with arm := .home, move := .still }
    match s.dc.record with
    | some r =>
      match r.closingTo with
      | .ventClosed => enterVentClosed r.eligible s
      | .finish => endDrying .latched s
      | .windDown =>
        (onRecord (fun x => { x with stage := .ended }) s).onCs fun c => { c with doorMoving := false }
    | none => s
  else s

/-- R141: ARMX is energized after the 0.5 s of latch release, which goes on until the door reads AJAR. Within the 0.5 s
LREL stays on at AJAR (DESIGN CHOICE, log entry 57). -/
def startExtension (s : State) : State :=
  (s.onDc fun d => { d with move := .extend, held := false, arm := .extending, lrelOn := d.door != .ajar,
                            lrelTimer := 0 }).onPins
    fun p => { p with home := false, gap := false }

/-- R141: GAP read during an extension. -/
def reachGap (s : State) : State :=
  (onRecord (fun r => { r with stage := .vent }) s).onDc fun d =>
    { d with arm := .atGap, move := .still, lrelOn := false }

/-- R136, R146, R150: HOME read. With a retraction under way it may end the move; with the motor off the arm is HOME. -/
def reachHome (s : State) : State :=
  match s.dc.move with
  | .park => s.onDc fun d => { d with arm := .home, move := .still }
  | .close =>
    finishClosing (if s.dc.arm == .retracting then s else s.onDc fun d => { d with arm := .home })
  | .still | .release | .extend =>
    if s.dc.arm == .extending then s else s.onDc fun d => { d with arm := .home }

/-- R143: a stall in OPENING, a condition. -/
def stallOpening (home : Bool) (s : State) : State :=
  let s := raiseCondition .doorStall (onRecord (fun r => { r with stall := true }) (stillArm s))
  if home then enterVentClosed false (s.onDc fun d => { d with arm := .home }) else startClosing .ventClosed false s

/-- R146: a stall in CLOSING, a fault; in a wind-down it ends the door movement. One that has outlived its cycle is
reported the same way, and R23 takes it in the state that it finds (DEDUCED, log entry 39). -/
def stallClosing (s : State) : State :=
  let s := (stillArm s).onDc fun d => { d with closingStalled := true }
  let wind := s.dc.record.any (·.closingTo == .windDown)
  let s := if wind then
      (onRecord (fun x => { x with stage := .ended }) s).onCs fun c => { c with doorMoving := false }
    else s
  faultCycle ⟨.doorStall, s.cs.ctx.phase⟩ true s

/-- R143, R146, R150: an arm move reaches the travel limit. A parking move with HOME closed then has reached it (R136),
and a CLOSING that reads all its end needs has ended: only one that does not is a stall. -/
def stallArm (home : Bool) (s : State) : State :=
  match s.dc.move with
  | .extend => stallOpening home s
  | .close => if closingDone s then finishClosing s else stallClosing s
  | .park => s.onDc fun d => { d with arm := if home then .home else .stalled, move := .still }
  | .still | .release => s

/-- R150: the left-ajar mark is cleared when the door reads OPEN or LATCHED; R141: LREL goes off when it reads AJAR. -/
def doorMarks (s : State) : State :=
  s.onDc fun d => { d with leftAjar := d.leftAjar && d.door == .ajar, lrelOn := d.lrelOn && d.door != .ajar }

/-- R144, R146, R148: what a door reading does to the drying stages. OPEN ends drying; the CLOSING of a wind-down runs on
to HOME, in a cycle started meanwhile too (log entry 39). -/
def doorDrying (s : State) : State :=
  match s.dc.record with
  | some r =>
    if r.stage == .ended then s
    else if s.dc.door == .opened && s.cs.state == .running && !windingDown r then endDrying .userOpened s
    else if s.dc.door == .latched && r.stage == .vent then enterVentClosed false s
    else finishClosing s
  | none => s

end Sys2Proof.Machine
end

