-- ==== Sys2Proof/Machine/Service.lean ====
section
/-! DEFINITION. The service exercise (R43 to R45): its eight items in order, their checks, and its end. -/

namespace Sys2Proof.Machine

def onService (f : Service → Service) (s : State) : State := s.onHc fun h => { h with service := h.service.map f }

/-! ## Item marks (DESIGN CHOICE, log entry 16) -/

/-- Bit i−1 of a list of items. -/
def hasItem (marks item : Nat) : Bool := marks / 2 ^ (item - 1) % 2 == 1

def addItem (item marks : Nat) : Nat := if hasItem marks item then marks else marks + 2 ^ (item - 1)

def markRan (item : Nat) (s : State) : State := onService (fun v => { v with ran := addItem item v.ran }) s
def markFailed (item : Nat) (s : State) : State := onService (fun v => { v with failed := addItem item v.failed }) s
def markNotRun (item : Nat) (s : State) : State := onService (fun v => { v with notRun := addItem item v.notRun }) s

/-- The first item of a list of items; 255 when it is empty. -/
def firstItem (marks : Nat) : Nat := ([1, 2, 3, 4, 5, 6, 7, 8].find? (hasItem marks)).getD 255

/-! ## The end of the exercise (R45) -/

/-- R44, R96: a service stroke that is owed is not made any more; a refill that it held takes effect. One in progress
goes on. -/
def dropOwedStroke (s : State) : State :=
  match s.du.svc with
  | some v => if v.stroking then s else takeHeld v.res (s.onDu fun d => { d with svc := none })
  | none => s

/-- R45: the output of the running item goes off, a dose stroke in progress excepted, and the state returns. -/
def stopService (s : State) : State :=
  let s := s.onHc fun h =>
    { h with service := none,
             divWanted := if h.service.any (·.item == 4) then none else h.divWanted }
  (dropOwedStroke s).onCs fun c => { c with state := c.ctx.serviceReturn }

/-- R45, R168: SERVICE END to the ordering station. -/
def endService (v : Service) (sense : Sense) (s : State) : State :=
  complete ⟨v.src, v.tag, .serviceEnd, 0, sense, [v.ran, v.failed, v.notRun]⟩ (stopService s)

/-- R45: the last item has finished. -/
def finishService (s : State) : State :=
  match s.hc.service with
  | some v => endService v (if v.failed == 0 then noSense else ⟨.hwService, firstItem v.failed⟩) s
  | none => s

/-- The items after the running one, and that one while it still waits for its load, were not run (DESIGN CHOICE, log
entry 16). -/
def closeMarks (v : Service) : Service :=
  let later := [1, 2, 3, 4, 5, 6, 7, 8].filter fun i => v.item < i || (v.item == i && v.waiting)
  let v := { v with notRun := later.foldl (fun m i => addItem i m) v.notRun }
  if v.waiting then v else { v with ran := addItem v.item v.ran }

/-- R45: an early end, with the sense that the running item gives. -/
def endServiceEarly (sense : Nat → Sense) (s : State) : State :=
  match s.hc.service with
  | some v => endService (closeMarks v) (sense v.item) s
  | none => s

/-! ## The items (R44) -/

/-- A pump's stroke of item 8 is asked for. -/
def askServiceStroke (res : Reservoir) (s : State) : State :=
  onService (fun v => { v with waiting := true, wait := 0 }) (s.onDu fun d => { d with svc := some ⟨res, false, 0⟩ })

/-- A known account below one stroke volume marks the pump not run. -/
def serviceStrokeShort (res : Reservoir) (s : State) : Bool :=
  (tankOf s res).known && (tankOf s res).account < strokeOf s.rp.cfg res

def serviceRinse (s : State) : State :=
  if serviceStrokeShort .rinseAid s then finishService (markNotRun 8 s) else askServiceStroke .rinseAid s

def serviceDetergent (s : State) : State :=
  if serviceStrokeShort .detergent s then serviceRinse (markNotRun 8 s) else askServiceStroke .detergent s

/-- R44: item 4 makes for the next ring position, or for any position when only BETWEEN has been read. -/
def serviceMove (s : State) : State :=
  s.onHc fun h => { h with divWanted := some (nextPos h.divPos), divTimer := 0 }

/-- R44: an item is taken; after item 8 the exercise ends. -/
def startItem (n : Nat) (s : State) : State :=
  let s := onService (fun v => { v with item := n, waiting := n == 5 || n == 7, timer := 0, wait := 0, moves := 0,
                                        seeking := n == 4 && s.hc.divPos == .between }) s
  if n == 4 then serviceMove s
  else if n == 8 then serviceDetergent s
  else if n ≥ 9 then finishService s
  else s

/-- The item after the running one. -/
def nextItem (s : State) : State :=
  match s.hc.service with
  | some v => startItem (v.item + 1) s
  | none => s

/-- R44: the reading that a move of item 4 waits for. Three moves come back to the starting position. -/
def serviceDiverter (v : Service) (s : State) : State :=
  if v.seeking then serviceMove (onService (fun x => { x with seeking := false }) s)
  else if v.moves ≥ 2 then nextItem (markRan 4 s)
  else serviceMove (onService (fun x => { x with moves := x.moves + 1 }) s)

/-- A pump of item 8 has had its turn. -/
def nextPump (res : Reservoir) (s : State) : State :=
  match res with
  | .detergent => serviceRinse s
  | .rinseAid => finishService s

/-- R44, R45, R96: the end of a service stroke; a refill held by it takes effect. -/
def endServiceStroke (res : Reservoir) (confirmed : Bool) (s : State) : State :=
  let s := s.onDu fun d => { d with svc := none }
  let s := takeHeld res (if confirmed then onTank res (deduct (strokeOf s.rp.cfg res)) s else s)
  if serviceAt 8 s then nextPump res (if confirmed then markRan 8 s else markFailed 8 s) else s

/-- R44, R90: what a stroke of item 8 does on its pump's grant. A stroke whose grant is withdrawn is cut: it is owed
again, with the refill that it holds (DESIGN CHOICE, log entry 30), or is over when the exercise has ended. It waits for
a stroke of a dose job in progress (log entry 73). -/
def serveServiceStroke (s : State) : State :=
  match s.du.svc with
  | some v =>
    if v.stroking && !pumpGranted v.res s then
      if serviceAt 8 s then
        onService (fun x => { x with waiting := true }) (s.onDu fun d => { d with svc := some ⟨v.res, false, 0⟩ })
      else takeHeld v.res (s.onDu fun d => { d with svc := none })
    else if !v.stroking && pumpGranted v.res s && !jobStroking s then
      onService (fun x => { x with waiting := false }) (s.onDu fun d => { d with svc := some ⟨v.res, true, 0⟩ })
    else s
  | none => s

/-- R44: items 5 and 7 run while their load is granted and wait while it is not (DESIGN CHOICE, log entry 30). -/
def serveService (s : State) : State :=
  let g := s.sa.grants
  serveServiceStroke
    (onService (fun v =>
      if v.item == 5 then { v with waiting := g.circ == 0 }
      else if v.item == 7 then { v with waiting := !g.fan }
      else v) s)

end Sys2Proof.Machine
end

