-- ==== Sys2Proof/Machine/Settle.lean ====
section
/-! DEFINITION. What every event that changes the part brings about besides its own effect: the reactions of the other
blocks to the new state (pauses, held ends, motion, the inlet, the wind-down, the supply walk and what the owners make
of their grants), and the output pins. The reactions are made twice over, so that one may follow from another; none
needs more (DESIGN CHOICE, log entry 34). -/

namespace Sys2Proof.Machine

/-! ## Pauses (R18, R20, R70) -/

/-- R70: SU keeps the supply hold set while a tank reserve is active. -/
def syncHold (s : State) : State :=
  let reserve := tankReserve s
  onRegen (fun r => { r with hold := reserve }) s

/-- R18: a fill or a regeneration of a cycle is stopped by a tank reserve; the SUPPLY reason clears by itself. -/
def supplyReason (s : State) (before : Bool) : Bool :=
  tankReserve s && (before || s.cs.ctx.stage == .fill || s.cs.ctx.stage == .regen)

def syncReason (s : State) : State :=
  if inCycle s then
    let now := supplyReason s s.cs.ctx.pauses.supply
    s.onCtx fun x => { x with pauses := { x.pauses with supply := now } }
  else s

/-- R18, R20: a pause reason makes RUNNING PAUSED, and an empty pause set makes PAUSED RUNNING. -/
def syncPause (s : State) : State :=
  if inCycle s then s.onCs fun c => { c with state := if c.ctx.pauses.any then .paused else .running } else s

def syncSupply (s : State) : State := syncPause (syncReason (syncHold s))

/-! ## Stage ends that wait or take no time -/

/-- R7, R20: a DRAIN end or FILL end held by a pause takes effect when the pause set is empty. -/
def takeHeldEnds (s : State) : State :=
  if moving s && s.cs.drainHeld then advanceDrain s
  else if moving s && s.cs.fillHeld then advanceFill s
  else s

/-- R5 case 4: a hold time of 0 ends HOLD as the timer starts. -/
def endZeroHold (s : State) : State :=
  if moving s && s.cs.ctx.stage == .hold && s.cs.holdStarted && (currentRecord s).any (·.hold == 0) then cutPhase s
  else s

/-- R140: a condense time of 0 ends CONDENSE at its creation. -/
def endZeroCondense (s : State) : State :=
  if condenseOver s && s.dc.record.any (·.condense == 0) then endCondense s else s

/-! ## The wind-down (R22, R23, R78) -/

/-- R22, R78: the final drain starts once no regeneration runs on. -/
def startFinalDrain (s : State) : State :=
  if s.cs.state == .aborting && s.cs.finalDrain == .notStarted && s.su.regen.isNone then
    startDrain .final (s.onCs fun c => { c with finalDrain := .running })
  else s

/-- R23: the wind-down ends when the final drain and the door movement have ended. -/
def endWindDown (s : State) : State :=
  if s.cs.state == .aborting && s.cs.finalDrain == .ended && !s.cs.doorMoving then endCycle s else s

/-! ## What owners make of their grants (R108) -/

/-- R34: a level above the driven one waits in the buffer; a lower or equal one is driven at once. -/
def serveCirc (s : State) : State :=
  let want := s.sa.grants.circ
  s.onHc fun h =>
    if want < h.drive then { h with drive := want, buffer := want, driveTimer := 0 } else { h with buffer := want }

def serveGrants (s : State) : State := serveService (serveDose (serveArm (serveCirc s)))

/-! ## One pass of reactions -/

/-- The reactions of the cycle, the water and the door. -/
def reactCycle (s : State) : State :=
  syncSupply (reopen (finishClosing (endZeroCondense (evaluateMotion (endZeroHold (takeHeldEnds (syncSupply s)))))))

/-- The reactions of the inlet, the fill, the wind-down, the parking move and the dose job. -/
def reactWork (s : State) : State :=
  syncDose (parkArm (endWindDown (startFinalDrain (routeSwitch (endFullFill (grantInlet (syncRegen s)))))))

def settlePass (s : State) : State := serveGrants (supplyRound (reactWork (reactCycle s)))

def settleAll (s : State) : State := settlePass (settlePass s)

/-! ## Outputs (section 1.7) -/

/-- R124: the driven stage is the granted stage while every interlock holds. -/
def drivenStage (s : State) : Nat := if heaterInterlock s then s.sa.grants.heater else 0

/-- A dose pump runs during a granted stroke of the job or of the service exercise (R89, R44). -/
def pumpOn (res : Reservoir) (s : State) : Bool :=
  pumpGranted res s
    && ((s.du.job.any fun j => j.res == res && j.phase == .stroking) || s.du.svc.any fun v => v.res == res && v.stroking)

/-- The output pins of a configured part. An UNCONFIGURED part drives only the drain pump of the leak response (R173).
-/
def outputsOf (s : State) : Outputs :=
  if s.rp.configured then
    { vin := fillValveOpen s || (flowingStep s).isSome
      vrouteSoft := s.hc.route == .soft || serviceRuns 1 s
      vbrine := flowingStep s == some .brine || serviceRuns 2 s
      vslow := flowingStep s == some .displace || serviceRuns 3 s
      he1 := 1 ≤ drivenStage s
      he2 := 2 ≤ drivenStage s
      circ := s.hc.drive
      drain := s.sa.grants.drain
      divm := s.hc.divWanted.isSome
      ddet := pumpOn .detergent s
      drin := pumpOn .rinseAid s
      lrel := s.sa.grants.actuator && (s.dc.move == .release || s.dc.lrelOn)
      armx := s.sa.grants.actuator && s.dc.arm == .extending
      armr := s.sa.grants.actuator && s.dc.arm == .retracting
      fan := s.sa.grants.fan }
  else { Outputs.off with drain := s.hc.leakLatch }

/-- The outputs follow the state; TC's wanted and driven stages are told. -/
def driveOutputs (s : State) : State :=
  (s.onTc fun t => { t with wanted := heaterWanted s, driven := drivenStage s }).withOut (outputsOf s)

/-- The end of every event that changes the part: the reactions, then the outputs. -/
def finish (s : State) : State :=
  driveOutputs ((settleAll s).onSa fun a => { a with mustAnnounce := false })

end Sys2Proof.Machine
end

