-- ==== Sys2Proof/Machine/Orders.lean ====
section
/-! DEFINITION. The Order Handler's queries (chapter 10): how an order is taken (R161, R165), and READY QUERY, STATUS
QUERY, READ REPORT, SENSE, DEVICE RESET and the orders no rule takes. -/

namespace Sys2Proof.Machine

/-- What exec answers: this machine never stops. -/
abbrev Result := Host.Outcome State Fault Refusal

/-! ## How an order is taken -/

/-- R161, R163, R172: OH decodes while the answer queue has room and no DEVICE RESET waits on its answer; a listen-only
part decodes none. -/
def ohReady (s : State) : Bool :=
  !listenOnly s && s.li.answers.length < 4 && !s.li.answers.any (·.reset)

/-- R165: OH removes the oldest frame of the receive queue. A command that is not that frame's decoding is not OH's;
with an empty receive queue the command itself is the frame decoded (DESIGN CHOICE, log entry 4). -/
def removeOrder (c : Instr) (s : State) : Option State :=
  match s.li.receive with
  | [] => some s
  | f :: rest => if decodeFrame f = c then some (s.onLi fun l => { l with receive := rest }) else none

/-- An order command: OH decodes the order and answers it, or nothing is decoded. -/
def takeOrder (c : Instr) (body : State → State) (s : State) : Result :=
  if ohReady s then
    match removeOrder c s with
    | some t => .next (body t)
    | none => .next s
  else .next s

def unconfiguredSense : Sense := ⟨.unconfigured, 255⟩

/-- R165 cases 5 and 6, R173: an UNCONFIGURED part refuses; else the rule's first failing test gives a CHECK answer,
and an order that passes them all is taken. -/
def answerBy (src tag : Nat) (refusal : State → Option Sense) (taken : State → State) (s : State) : State :=
  if s.rp.configured then
    match refusal s with
    | some x => answerCheck src tag x s
    | none => taken s
  else answerCheck src tag unconfiguredSense s

/-- The order comes from the cycle owner (R166). -/
def fromOwner (src : Nat) (s : State) : Bool := s.cs.ctx.owner == some src

/-- The first failing test of a list of tests. -/
def firstFailing : List (Bool × Sense) → Option Sense
  | [] => none
  | (fails, sense) :: rest => if fails then some sense else firstFailing rest

/-- A sense with no qualifier. -/
def plain (c : Cause) : Sense := ⟨c, 255⟩

/-! ## READY QUERY and STATUS QUERY (R167) -/

/-- RUNNING, PAUSED or ABORTING refuse START, and SERVICE does (R10 case 2). -/
def startConflict (s : State) : Cause :=
  match s.cs.state with
  | .running | .paused | .aborting => .cycleActive
  | .service => .cfService
  | .empty | .ended | .loaded | .recovery => if s.su.regenerating then .cfRegenerating else .noList

/-- The tests of R10 in their order, the owner test made when a station is given. -/
def startTests (src : Option Nat) (s : State) : Option Sense :=
  firstFailing
    [(s.cs.state == .recovery, plain .nrRecovery),
     (s.cs.state != .loaded || s.su.regenerating, plain (startConflict s)),
     (src.any fun x => !fromOwner x s, plain .notOwner),
     (s.hc.leakLatch, plain .nrLeak),
     (s.tc.overtemp, plain .nrOvertemperature),
     (s.dc.door != .latched, plain .doorNotLatched),
     (tankReserve s, plain .tankReserve)]

/-- The result fields of READY QUERY. -/
def readyFields (s : State) : List Nat :=
  match (if s.rp.configured then startTests none s else some unconfiguredSense) with
  | none => 1 :: noSense.bytes
  | some x => 0 :: x.bytes

/-- READY_QUERY (R167). -/
def execReadyQuery (src tag : Nat) (s : State) : Result :=
  takeOrder (.readyQuery src tag) (fun s => answerGood src tag (readyFields s) s) s

/-- STATUS_QUERY (R167). -/
def execStatusQuery (src tag : Nat) (s : State) : Result :=
  takeOrder (.statusQuery src tag) (fun s => answerGood src tag (statusFields s) s) s

/-! ## READ REPORT (R171) -/

/-- The index and part that a READ REPORT reads. -/
def readIndex (start : Nat) (s : State) : Nat := if start == 255 then s.oh.reportIndex else start
def readPart (start part : Nat) (s : State) : Nat := if start == 255 then s.oh.reportPart else part

/-- R171 cases 2 and 3. -/
def readRefusal (start part : Nat) (s : State) : Option Sense :=
  match s.rp.report[readIndex start s]? with
  | none => some ⟨.endOfReport, readIndex start s⟩
  | some e => if e.hasPart (readPart start part s) then none else some ⟨.badField, readPart start part s⟩

/-- R171 case 1: the position moves on: to part 1 after part 0 of a phase entry, else to the next entry. -/
def nextPosition (e : ReportEntry) (index part : Nat) (o : OhState) : OhState :=
  if e.hasPart (part + 1) then { o with reportIndex := index, reportPart := part + 1 }
  else { o with reportIndex := index + 1, reportPart := 0 }

def readEntry (src tag start part : Nat) (s : State) : State :=
  let i := readIndex start s
  let p := readPart start part s
  match s.rp.report[i]? with
  | some e => (answerGood src tag (i :: p :: e.bytes p) s).onOh (nextPosition e i p)
  | none => s

/-- READ_REPORT (R171). -/
def execReadReport (src tag start part : Nat) (s : State) : Result :=
  takeOrder (.readReport src tag start part)
    (answerBy src tag (readRefusal start part) (readEntry src tag start part)) s

/-! ## SENSE (R170) -/

/-- The caller's entry as result fields. -/
def senseFields (src : Nat) (s : State) : List Nat :=
  match s.oh.senseTable.find? (·.station == src) with
  | some e => e.sense.bytes ++ [e.tag]
  | none => noSense.bytes ++ [0]

/-- SENSE (R170): the entry is answered and removed. -/
def execSense (src tag : Nat) (s : State) : Result :=
  takeOrder (.sense src tag)
    (fun s => (answerGood src tag (senseFields src s) s).onOh fun o =>
      { o with senseTable := o.senseTable.filter (·.station != src) }) s

/-! ## DEVICE RESET (R172) and the orders no rule takes (R165) -/

/-- DEVICE_RESET (R172): the answer is queued; the reset takes effect at its end on the line. -/
def execDeviceReset (src tag : Nat) (s : State) : Result :=
  takeOrder (.deviceReset src tag)
    (answerBy src tag (fun _ => none) (pushAnswer ⟨src, tag, .good, noSense, [], true⟩)) s

/-- R165 cases 1 to 4: the answer to a frame that is no order OH can hand on. -/
def answerUnknown (f : Frame) (s : State) : State :=
  let bad (tag : Nat) := answerCheck f.src tag ⟨.badLength, f.payload.length⟩ s
  if f.kind != kindOrder then answerReject f.src (f.payload.headD 0) s
  else
    match f.payload with
    | code :: tag :: _ => if orderCodes.contains code then bad tag else answerReject f.src tag s
    | _ => bad 0

/-- UNKNOWN_ORDER (R165): a frame whose decoding is another command is not this one's. -/
def execUnknownOrder (f : Frame) (s : State) : Result :=
  if decodeFrame f = .unknownOrder f then takeOrder (.unknownOrder f) (answerUnknown f) s else .next s

end Sys2Proof.Machine
end

