-- ==== Sys2Proof/Machine/CycleOrders.lean ====
section
/-! DEFINITION. The orders of the Cycle Sequencer: LOAD PHASES, START, PAUSE, RESUME, ABORT and the amendments
(chapter 1). -/

namespace Sys2Proof.Machine

/-! ## LOAD PHASES (R2, R3) -/

/-- R2: the order clears the list first, in EMPTY, and in ENDED with start index 0. -/
def loadClears (start : Nat) (s : State) : Bool := s.cs.state == .empty || (s.cs.state == .ended && start == 0)

/-- The list and the load index that the records meet. -/
def loadBase (start : Nat) (s : State) : List PhaseRecord := if loadClears start s then [] else s.cs.list
def loadFrom (start : Nat) (s : State) : Nat := if loadClears start s then 0 else s.cs.loadIndex

/-- R3: the index of the first record. -/
def loadStart (start : Nat) (s : State) : Nat := if start == 255 then loadFrom start s else start

/-- R2's tests of state and sender. -/
def loadStateTests (src start : Nat) (s : State) : Option Sense :=
  match s.cs.state with
  | .empty => none
  | .ended => if start == 0 || fromOwner src s then none else some (plain .notOwner)
  | .loaded => if fromOwner src s then none else some (plain .notOwner)
  | .recovery => some (plain .nrRecovery)
  | .running | .paused | .aborting => some (plain .cycleActive)
  | .service => some (plain .cfService)

/-- R3: one record against the list as it stands; `more` says that a later record of the order follows it. A DRY record
at n that follows a DRY record at n−1 is refused "after DRY" too, by R3's closing sentence (DEDUCED, log entry 36). -/
def checkRecord (l : List PhaseRecord) (i : Nat) (more : Bool) (r : RawPhase) : Except Cause PhaseRecord :=
  match kindOf r.kind with
  | none => .error .badKind
  | some kind =>
    match patternOf r.pattern, doseOf r.dose with
    | some pattern, some dose =>
      if i > 11 || i > l.length then .error .badIndex
      else if kind == .dry && (more || i + 1 < l.length) then .error .dryNotLast
      else if (l.take i).any (·.kind == .dry) then .error .afterDry
      else .ok (storedRecord r kind pattern dose)
    | _, _ => .error .badField

/-- R3: a record replaces the one at its index, or extends the list by one. -/
def storeRecord (l : List PhaseRecord) (i : Nat) (r : PhaseRecord) : List PhaseRecord :=
  if i < l.length then l.set i r else l ++ [r]

/-- R3: the records at consecutive indexes: the list they leave, or the first refusal. -/
def storeRecords (l : List PhaseRecord) (i : Nat) : List RawPhase → Except Sense (List PhaseRecord)
  | [] => .ok l
  | r :: rest =>
    match checkRecord l i (!rest.isEmpty) r with
    | .error c => .error ⟨c, i⟩
    | .ok p => storeRecords (storeRecord l i p) (i + 1) rest

/-- The list that a LOAD PHASES leaves, or its refusal by R3. -/
def loadResult (start : Nat) (recs : List RawPhase) (s : State) : Except Sense (List PhaseRecord) :=
  storeRecords (loadBase start s) (loadStart start s) recs

def loadRefusal (src start : Nat) (recs : List RawPhase) (s : State) : Option Sense :=
  (loadStateTests src start s).or
    (match loadResult start recs s with
     | .error x => some x
     | .ok _ => none)

/-- R2: the records are stored and the state becomes LOADED. -/
def storeList (src start : Nat) (recs : List RawPhase) (l : List PhaseRecord) (s : State) : State :=
  let clears := loadClears start s
  let p := loadStart start s + recs.length
  let s := if clears then (clearReport s).onCtx fun x => { x with owner := some src } else s
  s.onCs fun c => { c with state := .loaded, list := l, loadIndex := p }

def takeLoad (src tag start : Nat) (recs : List RawPhase) (s : State) : State :=
  match loadResult start recs s with
  | .ok l =>
    let s := storeList src start recs l s
    finish (answerGood src tag [s.cs.list.length, s.cs.loadIndex] s)
  | .error _ => s

/-- LOAD_PHASES (R2, R3). -/
def execLoadPhases (src tag start : Nat) (recs : List RawPhase) (s : State) : Result :=
  takeOrder (.loadPhases src tag start recs)
    (answerBy src tag (loadRefusal src start recs) (takeLoad src tag start recs)) s

/-! ## START (R10) -/

/-- R9: the cycle context cleared at START; the owner and the service return state are kept, and the want copied. -/
def startContext (want : Bool) (tag : Nat) (x : CycleContext) : CycleContext :=
  { CycleContext.atReset with owner := x.owner, serviceReturn := x.serviceReturn, startTag := tag, regenWanted := want }

/-- R121: a sensor already FAULTED at START is reported then. -/
def reportSensor (s : State) : State :=
  if s.tc.faulted && cycleOn s && !s.tc.sensorReported then
    fault .temperatureSensor (s.onTc fun t => { t with sensorReported := true })
  else s

/-- R10: the steps of a taken START, in their order. R121 gives no place among them to the report of a sensor that is
FAULTED already: it follows the ENTRY of phase 0, so that the wind-down finds that ENTRY's stage (DESIGN CHOICE, log
entry 75). -/
def startCycle (tag : Nat) (s : State) : State :=
  let want := s.su.want
  let s := s.onCs fun c => { c with ctx := startContext want tag c.ctx, amendments := [], groups := [],
                                    groupCounter := 1, finalDrain := .notStarted, doorMoving := false,
                                    drainHeld := false, fillHeld := false }
  let s := clearReport s
  let s := s.onRp fun r => { r with energy := 0, water := 0 }
  let s := requestWrite (some true) false false s
  let s := s.onTc fun t => { t with disabled := false, sensorReported := false }
  let s := s.onDc fun d => { d with leftAjar := false, closingStalled := false }
  let s := s.onCs fun c => { c with state := .running }
  reportSensor (enterPhase 0 s)

/-- START (R10). -/
def execStart (src tag : Nat) (s : State) : Result :=
  takeOrder (.start src tag)
    (answerBy src tag (startTests (some src)) fun s => finish (startCycle tag (answerGood src tag [] s))) s

/-! ## PAUSE, RESUME (R19, R21) -/

def pauseTests (src : Nat) (s : State) : Option Sense :=
  firstFailing
    [(!inCycle s, plain .notRunning), (!fromOwner src s, plain .notOwner), (inDryPhase s, plain .cfDrying)]

def addOrderPause (s : State) : State := s.onCtx fun x => { x with pauses := { x.pauses with order := true } }

/-- PAUSE (R19). -/
def execPause (src tag : Nat) (s : State) : Result :=
  takeOrder (.pause src tag)
    (answerBy src tag (pauseTests src) fun s => finish (addOrderPause (answerGood src tag [] s))) s

def resumeTests (src : Nat) (s : State) : Option Sense :=
  firstFailing
    [(!inCycle s, plain .notRunning), (!fromOwner src s, plain .notOwner),
     (s.cs.state == .paused && s.dc.door != .latched, plain .doorNotLatched)]

/-- R21 cases 3 and 5. -/
def removePauses (s : State) : State :=
  if s.cs.state == .paused then
    s.onCtx fun x => { x with pauses := { x.pauses with userDoor := false, order := false } }
  else s

/-- RESUME (R21). -/
def execResume (src tag : Nat) (s : State) : Result :=
  takeOrder (.resume src tag)
    (answerBy src tag (resumeTests src) fun s => finish (removePauses (answerGood src tag [] s))) s

/-! ## ABORT (R22) -/

def abortTests (s : State) : Option Sense :=
  match s.cs.state with
  | .recovery => some (plain .cfRecovery)
  | .empty | .loaded | .ended => if s.su.regenerating then none else some (plain .noCycle)
  | .running | .paused | .aborting | .service => none

/-- R22: what an ABORT does in each state. -/
def takeAbort (s : State) : State :=
  match s.cs.state with
  | .running | .paused => abortCycle s
  | .service => endServiceEarly (fun item => ⟨.abortOrder, item⟩) s
  | .aborting | .empty | .loaded | .ended | .recovery => s

/-- ABORT (R22). -/
def execAbort (src tag : Nat) (s : State) : Result :=
  takeOrder (.abort src tag)
    (answerBy src tag abortTests fun s => finish (takeAbort (answerGood src tag [] s))) s

/-! ## AMEND (R11, R12) -/

/-- R12: the cut of the current phase has not been taken. -/
def beforeCut (s : State) : Bool :=
  match s.cs.ctx.stage with
  | .idle | .entry | .fill | .heat | .hold | .drying => true
  | .drain | .regen | .exit => false

def arrivalMark (s : State) : Mark := if beforeCut s then .onTime else .late

/-- The value an AMEND carries is of its field's kind: a dose value is one of the three. -/
def goodValue (f : AmendField) (value : Nat) : Bool :=
  match f with
  | .dose => (doseOf value).isSome
  | _ => true

def hasEntry (target : Nat) (f : AmendField) (s : State) : Bool :=
  s.cs.amendments.any fun e => e.target == target && e.field == f

/-- R11's tests in their order. -/
def amendTests (src target fld value : Nat) (s : State) : Option Sense :=
  if !inCycle s then some (plain .notRunning)
  else if !fromOwner src s then some (plain .notOwner)
  else
    match amendFieldOf fld with
    | none => some (plain .badField)
    | some f =>
      if !goodValue f value then some (plain .badField)
      else if s.cs.list.length ≤ target then some (plain .badIndex)
      else if target ≤ s.cs.ctx.phase then some ⟨.phasePassed, target⟩
      else if 8 ≤ s.cs.amendments.length && !hasEntry target f s then some (plain .setFull)
      else none

def openGroup (s : State) : Option AmendGroup := s.cs.groups.find? (·.state == .opened)

/-- R11: an entry with the same target and field is replaced in place and keeps its group. -/
def replaceEntry (target : Nat) (f : AmendField) (value tag : Nat) (m : Mark) (es : List AmendEntry) :
    List AmendEntry :=
  es.map fun e =>
    if e.target == target && e.field == f then { e with value := value, tag := tag, mark := e.mark.map fun _ => m }
    else e

/-- R11: a new entry joins the OPEN group, when one is. -/
def newEntry (target : Nat) (f : AmendField) (value tag : Nat) (m : Mark) (g : Option AmendGroup) : AmendEntry :=
  ⟨target, f, value, if g.isSome then none else some m, g.map (·.num), tag⟩

/-- R11: a taken AMEND. -/
def storeAmend (tag target : Nat) (f : AmendField) (value : Nat) (s : State) : State :=
  let kind := ((s.cs.list[target]?).map (·.kind)).getD .prewash
  let v := clampAmend kind f value
  let m := arrivalMark s
  let g := openGroup s
  let found := hasEntry target f s
  s.onCs fun c =>
    { c with amendments :=
        if found then replaceEntry target f v tag m c.amendments
        else c.amendments ++ [newEntry target f v tag m g] }

def takeAmend (src tag target fld value : Nat) (s : State) : State :=
  match amendFieldOf fld with
  | some f => answerGood src tag [] (storeAmend tag target f value s)
  | none => s

/-- AMEND (R11). -/
def execAmend (src tag target fld value : Nat) (s : State) : Result :=
  takeOrder (.amend src tag target fld value)
    (answerBy src tag (amendTests src target fld value) (takeAmend src tag target fld value)) s

/-! ## HOLD and RELEASE AMENDMENTS (R13) -/

/-- Cases 1 and 2 of R11. -/
def groupTests (src : Nat) (s : State) : Option Sense :=
  firstFailing [(!inCycle s, plain .notRunning), (!fromOwner src s, plain .notOwner)]

/-- One step of the group counter, from 255 to 1. -/
def stepCounter (n : Nat) : Nat := if n ≥ 255 then 1 else n + 1

/-- R13: the counter steps on, passing over any number still carried by an entry. Eight entries carry at most eight. -/
def nextNumber (es : List AmendEntry) : Nat → Nat → Nat
  | 0, n => n
  | fuel + 1, n => if es.any (·.group == some n) then nextNumber es fuel (stepCounter n) else n

/-- R13: a group is opened when none is OPEN. -/
def holdGroup (s : State) : State :=
  if (openGroup s).isSome then s
  else s.onCs fun c =>
    { c with groups := c.groups ++ [⟨c.groupCounter, .opened, 0⟩],
             groupCounter := nextNumber c.amendments 8 (stepCounter c.groupCounter) }

/-- The number of the OPEN group, 0 when none is OPEN. -/
def openNumber (s : State) : Nat := ((openGroup s).map (·.num)).getD 0

def takeHoldGroup (src tag : Nat) (s : State) : State :=
  let s := holdGroup s
  answerGood src tag [openNumber s] s

/-- HOLD_AMENDMENTS (R13). -/
def execHoldAmendments (src tag : Nat) (s : State) : Result :=
  takeOrder (.holdAmendments src tag) (answerBy src tag (groupTests src) (takeHoldGroup src tag)) s

/-- R13, R12: the OPEN group is released, and discarded when it has no members. -/
def releaseGroup (tag : Nat) (s : State) : State :=
  match openGroup s with
  | some g =>
    let st := if beforeCut s then GroupState.releasedOnTime else .releasedLate
    s.onCs fun c =>
      { c with groups :=
          if (membersOf g c.amendments).isEmpty then c.groups.filter (·.num != g.num)
          else c.groups.map fun x => if x.num == g.num then { x with state := st, tag := tag } else x }
  | none => s

def takeRelease (src tag : Nat) (s : State) : State := answerGood src tag [openNumber s] (releaseGroup tag s)

/-- RELEASE_AMENDMENTS (R13). -/
def execReleaseAmendments (src tag : Nat) (s : State) : Result :=
  takeOrder (.releaseAmendments src tag) (answerBy src tag (groupTests src) (takeRelease src tag)) s

end Sys2Proof.Machine
end

