-- ==== Sys2Proof/Machine/WorkOrders.lean ====
section
/-! DEFINITION. The orders to the water and dosing blocks: RESERVOIR FILLED (R96), FORCE REGENERATION (R67) and SERVICE
TEST (R43). -/

namespace Sys2Proof.Machine

/-! ## RESERVOIR FILLED (R96) -/

def filledTests (reservoir : Nat) (_ : State) : Option Sense :=
  if (reservoirOf reservoir).isNone then some (plain .badField) else none

def takeFilled (src tag reservoir : Nat) (s : State) : State :=
  match reservoirOf reservoir with
  | some res =>
    let s := answerGood src tag [] s
    finish (if refillHeld res s then onTank res (fun t => { t with held := true }) s else refill res s)
  | none => s

/-- RESERVOIR_FILLED (R96). -/
def execReservoirFilled (src tag reservoir : Nat) (s : State) : Result :=
  takeOrder (.reservoirFilled src tag reservoir)
    (answerBy src tag (filledTests reservoir) (takeFilled src tag reservoir)) s

/-! ## FORCE REGENERATION (R67) -/

def forceTests (s : State) : Option Sense :=
  firstFailing
    [(s.cs.state == .recovery, plain .nrRecovery), (s.cs.state == .service, plain .cfService),
     (s.hc.leakLatch, plain .nrLeak)]

/-- R67 cases 4 to 7. -/
def forceRegen (src tag : Nat) (s : State) : State :=
  if s.su.regen.isSome then s
  else
    match s.cs.state with
    | .empty | .ended => placeRegen .standalone src tag ((setWant s).onSu fun u => { u with regenerating := true })
    | .running | .paused | .aborting | .loaded | .recovery | .service => setWant s

/-- FORCE_REGENERATION (R67). -/
def execForceRegeneration (src tag : Nat) (s : State) : Result :=
  takeOrder (.forceRegeneration src tag)
    (answerBy src tag forceTests fun s => finish (forceRegen src tag (answerGood src tag [] s))) s

/-! ## SERVICE TEST (R43) -/

/-- R43's cases in their order, the first that applies: in LOADED "list loaded" comes before "regenerating", though
R68 names the latter for every state in which the flag is set. R165 case 6 has the rule of section 10.1's table give
the answer, and that is R43 (DEDUCED, log entry 71). -/
def serviceTests (s : State) : Option Sense :=
  match s.cs.state with
  | .running | .paused | .aborting | .service => some (plain .cycleActive)
  | .recovery => some (plain .nrRecovery)
  | .loaded => some (plain .listLoaded)
  | .empty | .ended =>
    firstFailing
      [(s.su.regenerating, plain .cfRegenerating), (s.hc.leakLatch, plain .nrLeak),
       (s.dc.door != .latched, plain .doorNotLatched),
       (s.hc.level != .empty || s.hc.drainOn, plain .tubNotEmpty)]

/-- R43: the state becomes SERVICE and item 1 is taken. -/
def startService (src tag : Nat) (s : State) : State :=
  let s := s.onCs fun c => { c with state := .service, ctx := { c.ctx with serviceReturn := c.state } }
  let s := s.onHc fun h => { h with service := some ⟨src, tag, 1, false, 0, 0, 0, false, 0, 0, 0⟩ }
  startItem 1 s

/-- SERVICE_TEST (R43). -/
def execServiceTest (src tag : Nat) (s : State) : Result :=
  takeOrder (.serviceTest src tag)
    (answerBy src tag serviceTests fun s => finish (startService src tag (answerGood src tag [] s))) s

end Sys2Proof.Machine
end

