-- ==== Sys2Proof/Machine/Startup.lean ====
section
/-! DEFINITION. Resets: the configuration block and POWER_ON (R173, section 11.2), and what a line reset condition
(R118, R158) and a DEVICE RESET (R176) do to every block. -/

namespace Sys2Proof.Machine

/-! ## The configuration block (section 11.2) -/

/-- A figure of `n` bytes brought to the nearer end of its range. -/
def ranged (b : List Nat) (at0 n lo hi : Nat) : Nat := clamp lo hi (field b at0 n)

def flagBit (b : List Nat) (at0 n : Nat) : Bool := b.getD at0 0 / 2 ^ n % 2 == 1

/-- The values the blocks take from a good configuration block, each at the nearer end of its range (R47, R71, R82,
R104, R120, R135; for chapter 2 and R160 by DESIGN CHOICE, log entry 10), with the further reductions of R47, R82 and
R104. -/
def parseConfig (b : List Nat) : Configuration where
  meterK := ranged b 1 2 32 2048
  fillTimeout := ranged b 3 2 60 900
  afterRun := ranged b 5 1 5 30
  drainLimit := ranged b 6 2 30 300
  t1 := ranged b 8 2 1 1022
  t2 := ranged b 10 2 1 1022
  t3 := ranged b 12 2 1 1022
  circDraws := (List.range 8).map fun i => ranged b (14 + i) 1 20 250
  goff := ranged b 22 2 0 500
  kh := ranged b 24 2 64 2048
  hfb := ranged b 26 2 0 900
  hardnessTarget := ranged b 28 2 0 300
  bedCapacity := ranged b 30 3 50000 400000
  reserve := min (field b 33 3) (ranged b 30 3 50000 400000 / 2)
  weakPercent := ranged b 36 1 25 100
  brineVolume := ranged b 37 2 100 1000
  displaceVolume := ranged b 39 2 200 2000
  flushVolume := ranged b 41 2 200 3000
  stepLimit := ranged b 43 2 60 1200
  dBase := ranged b 45 2 0 1000
  dHard := ranged b 47 2 0 500
  dMin := min (ranged b 49 2 0 400) (ranged b 51 2 50 800)
  dMax := ranged b 51 2 50 800
  detStroke := ranged b 53 1 5 100
  rBase := ranged b 54 2 0 300
  closedFactor := ranged b 56 1 100 250
  rinStroke := ranged b 57 1 5 100
  detCapacity := ranged b 58 3 10000 200000
  rinCapacity := ranged b 61 3 10000 200000
  detLow := min (ranged b 64 2 0 50000) (ranged b 58 3 10000 200000)
  rinLow := min (ranged b 66 2 0 50000) (ranged b 61 3 10000 200000)
  primingStrokes := ranged b 68 1 0 20
  siteLimit := ranged b 69 2 500 8000
  floor := min (ranged b 71 2 100 1000) (ranged b 69 2 500 8000)
  refreshPeriod := ranged b 73 1 1 10
  ownRank := ranged b 74 1 0 7
  baseDraw := ranged b 75 1 5 40
  drainDraw := ranged b 76 1 10 60
  actuatorDraw := ranged b 77 1 5 40
  detDraw := ranged b 78 1 2 20
  rinDraw := ranged b 79 1 2 20
  heater1Draw := ranged b 80 2 200 2000
  heater2Draw := max (ranged b 82 2 400 4000) (ranged b 80 2 200 2000)
  fanDraw := ranged b 84 1 5 60
  stageBand := ranged b 85 1 20 150
  hysteresis := ranged b 86 1 10 40
  elementLimit := ranged b 87 1 10 90
  supplyLimit := ranged b 88 1 5 120
  closedOffset := ranged b 89 1 0 100
  openTemp := ranged b 90 2 400 700
  travelLimit := ranged b 92 1 2 10
  motionValidity := ranged b 93 1 5 120
  motionLevelLimit := ranged b 94 1 0 3
  tiltLimit := ranged b 95 1 1 60
  settleTime := ranged b 96 2 10 300
  reopenLimit := ranged b 98 1 0 3
  closeAfterVent := flagBit b 99 0
  noMotionStation := flagBit b 99 1
  defaultWantOpen := flagBit b 99 2
  defaultCondense := ranged b 100 2 0 1800
  defaultVent := ranged b 102 2 0 3600
  ownGroup := ranged b 104 1 64 127
  groupMask := ranged b 105 1 0 63

/-- R173 step 2: the block of a memory that acknowledges, with version 1 and a matching check; else UNCONFIGURED. -/
def readConfig (chip : Option SerialMemory) : Option Configuration :=
  match chip with
  | some m =>
    if m.config.length ≥ 107 && m.config.getD 0 0 == 1 && crc8 (m.config.take 106) == m.config.getD 106 0 then
      some (parseConfig m.config)
    else none
  | none => none

/-! ## POWER_ON (R173) -/

/-- R173 step 3: the record image: the stored figures, or those of a bad check. -/
def recordImage (chip : Option SerialMemory) : PersistentRecord :=
  (chip.bind fun m => readRecord m.record).getD PersistentRecord.bad

/-- R63: the bed state read back. -/
def bedReadBack (c : Configuration) (r : PersistentRecord) : BedState :=
  match r.bed with
  | .ready | .depleted => if min r.account c.bedCapacity > c.reserve then .ready else .depleted
  | .brining | .rinsing | .salted => .salted

/-- R63, R62 case 2, R81: SU at power-on. -/
def suAtPowerOn (c : Configuration) (r : PersistentRecord) : SuState :=
  { SuState.atReset with
    account := min r.account c.bedCapacity, bed := bedReadBack c r, want := bedReadBack c r != .ready,
    regenCount := r.count }

/-- R97: DU at power-on. -/
def duAtPowerOn (c : Configuration) (r : PersistentRecord) : DuState :=
  { DuState.atReset with
    det := ⟨min r.det c.detCapacity, r.detKnown, false, r.detPrimed, false, false⟩,
    rin := ⟨min r.rin c.rinCapacity, r.rinKnown, false, r.rinPrimed, false, false⟩ }

/-- R28, R35, R46: HC at power-on reads its switches at once. -/
def hcAtPowerOn (p : Pins) : HcState :=
  { HcState.atReset with level := levelOf p.lvl0 p.lvl1 p.lvl2, divPos := p.divp }

/-- R136, R152: DC at power-on reads door and arm at once. -/
def dcAtPowerOn (c : Configuration) (p : Pins) : DcState :=
  { DcState.atReset with
    door := doorOf p.latch p.ajar, arm := if p.home then .home else .stopped, permitted := c.noMotionStation }

/-- The straps make a part listen-only (R163). -/
def strapsListenOnly (straps : Nat) : Bool := straps == 0 || straps == 63

/-- R164, R173 step 4: LI at power-on, with the first LOAD NOTICE in its slot. -/
def liAtPowerOn (c : Configuration) (straps : Nat) : LiState :=
  { LiState.atReset with own := straps, slot := if strapsListenOnly straps then none else some ⟨false, c.floor⟩ }

/-- The part after R173's steps 1 to 4. What waits in the queue is outside the part and stays. An UNCONFIGURED part reads
its accounts and bed back with the standard capacities, thresholds and reserve (DESIGN CHOICE, log entry 58). -/
def powerOnState (pins : Pins) (straps : Nat) (chip : Option SerialMemory) (s : State) : State :=
  let c := (readConfig chip).getD Configuration.standard
  let r := recordImage chip
  let su := suAtPowerOn c r
  { State.reset with
    pending := s.pending
    freeCount := s.freeCount
    pins := pins
    memory := chip.getD ⟨[], []⟩
    li := liAtPowerOn c straps
    cs := { CsState.atReset with ctx := { CycleContext.atReset with regenWanted := su.want } }
    hc := hcAtPowerOn pins
    su := su
    du := duAtPowerOn c r
    sa := { SaState.atReset with announced := c.floor, served := c.floor, allotted := c.floor }
    dc := dcAtPowerOn c pins
    rp := { RpState.atReset with configured := (readConfig chip).isSome, cfg := c, image := r } }

/-- R173 step 5: a CONFIGURED part enters RECOVERY when the cycle-in-progress flag is set. -/
def startPart (s : State) : State :=
  if s.rp.configured && s.rp.image.inProgress then enterRecovery s else s

/-- POWER_ON (R173). The command carries what the part reads at that event: its input pins, its straps, and the serial
memory when it acknowledges (DESIGN CHOICE, log entries 2 and 27). -/
def execPowerOn (pins : Pins) (straps : Nat) (chip : Option SerialMemory) (s : State) : Result :=
  .next (finish (startPart (powerOnState pins straps chip s)))

/-! ## Line reset condition (R118, R158) -/

/-- R118 step 3, R119: the loads WAITING on a claim that is gone become DEFERRED, and the deferral timer starts, as at a
withdrawal (DEDUCED, log entry 64). -/
def loseClaim (s : State) : State := if (claimFigure s).isSome then deferWaiting s else s

/-- R158 steps 1 to 4, R163: LI's queues, slots, conflict and extra wait are cleared. -/
def clearLine (s : State) : State :=
  s.onLi fun l =>
    { l with receive := [], slot := none, follower := .nothing, answers := [], completions := [], sending := none,
             extraWait := none, conflict := 0, ackDriven := false }

/-- R118 steps 1, 2, 4 and 5, and 6: SA returns to the floor and places a LOAD NOTICE of F. A claim walk that waited for
the outcome of a frame on the line (R110, R113 case 3) is made with the walk of step 2, so that a load WAITING on a
lowering notice that is gone is told DEFERRED (R109). -/
def resetSupply (s : State) : State :=
  let floor := s.rp.cfg.floor
  placeSupply ⟨false, floor⟩
    (s.onSa fun a =>
      { a with view := [], overflow := 0, settle := 2, refreshTimer := 0, announced := floor,
               reask := a.reask || a.claimOwed, claimOwed := false })

/-- R152: the settle timer is 0 after a line reset condition. -/
def resetSettle (s : State) : State := s.onDc fun d => { d with settle := 0 }

/-- R158, R118, R152: the line reset condition's effect on LI, SA and DC. -/
def resetLine (s : State) : State := resetSettle (resetSupply (clearLine (loseClaim s)))

/-! ## DEVICE RESET (R176) -/

/-- R46: HC after a DEVICE RESET. -/
def hcReset (p : Pins) (h : HcState) : HcState :=
  { HcState.atReset with
    level := levelOf p.lvl0 p.lvl1 p.lvl2, divPos := h.divPos, leakLatch := h.leakLatch && p.leak }

/-- R64, R80, R81: SU after a DEVICE RESET; a begun regeneration leaves the bed SALTED. -/
def suReset (begun : Bool) (u : SuState) : SuState :=
  { u with bed := if begun then .salted else u.bed, want := u.want || begun, sample := none, hin := none,
           cellFault := false, plan := none, gate := .shut, predicted := 0, regen := none, regenerating := false }

/-- R98, R99: DU after a DEVICE RESET. The held refills take effect. -/
def resetDosing (s : State) : State :=
  let s := s.onDu fun d =>
    { d with job := none, svc := none, det := { d.det with low := false }, rin := { d.rin with low := false } }
  takeHeld .rinseAid (takeHeld .detergent s)

/-- R123, R134: TC after a DEVICE RESET. -/
def tcReset (p : Pins) (t : TcState) : TcState :=
  { TcState.atReset with
    tub := t.tub, faulted := t.faulted, overtemp := t.overtemp && (p.otc || 850 ≤ t.tub) }

/-- R152: DC after a DEVICE RESET. -/
def dcReset (c : Configuration) (p : Pins) : DcState := dcAtPowerOn c p

/-- R119: SA's grants and statuses after a DEVICE RESET; the shed state runs on. -/
def dropGrants (s : State) : State :=
  s.onSa fun a =>
    { a with requests := Loads.none, grants := Loads.none, statuses := Statuses.idle, deferral := none,
             reask := false, mustAnnounce := false }

/-- R25: CS after a DEVICE RESET, before RECOVERY. -/
def resetCycle (s : State) : State :=
  let want := s.su.want
  s.onCs fun _ => { CsState.atReset with ctx := { CycleContext.atReset with regenWanted := want } }

/-- R172, R176, R177: OH and RP after a DEVICE RESET. -/
def resetReport (s : State) : State :=
  (clearReport (s.onOh fun _ => OhState.atReset)).onRp fun r =>
    { r with draft := PhaseDraft.zero, energy := 0, water := 0 }

/-- R176: the blocks of the water, the heat and the door. -/
def resetWork (s : State) : State :=
  let begun := regenBegun s
  let pins := s.pins
  let cfg := s.rp.cfg
  resetDosing
    ((((s.onHc (hcReset pins)).onSu (suReset begun)).onTc (tcReset pins)).onDc fun _ => dcReset cfg pins)

/-- R176: a DEVICE RESET takes effect: the work ends in silence, LI and SA act as at a line reset condition, and
RECOVERY begins. Writes asked for by the gate or by BRINE open nothing any more. -/
def deviceReset (s : State) : State :=
  enterRecovery
    (resetReport (resetCycle (dropGrants (resetLine (forgetBrineWrites (forgetGateWrites (resetWork s)))))))

end Sys2Proof.Machine
end

