-- ==== Sys2Proof/Machine/Line.lean ====
section
/-! DEFINITION. The Line Interface and the Supply Account's line events (chapters 6 and 9): received frames, sending,
arbitration, collisions, the line reset condition, the refresh tick, and the re-ask events. -/

namespace Sys2Proof.Machine

/-! ## The peer view (R100 to R103) -/

/-- R101: a frame taken from a listed station. -/
def hear (e : PeerEntry) : PeerEntry := { e with age := 0, heard := true, stale := false }

/-- R101, R156: the part a notice writes into its source's entry; none when its length does not match. -/
def writePart (now kind : Nat) (payload : List Nat) (e : PeerEntry) : PeerEntry :=
  if kind == kindLoadNotice || kind == kindClaim then { e with load := (loadPartOf payload).or e.load }
  else if kind == kindMotion then { e with motion := (motionPartOf now payload).or e.motion }
  else if kind == kindTank then { e with tank := (tankFlagOf payload).or e.tank }
  else e

def newPeer (station : Nat) : PeerEntry := ⟨station, 0, true, false, none, none, none⟩

def listed (station : Nat) (v : List PeerEntry) : Bool := v.any (·.station == station)

/-- R101: the view after a frame, its source neither 0, 63 nor the part. A notice from an unlisted station makes an
entry while the view holds fewer than 24. -/
def viewAfter (now : Nat) (f : Frame) (v : List PeerEntry) : List PeerEntry :=
  if listed f.src v then v.map fun e => if e.station == f.src then writePart now f.kind f.payload (hear e) else e
  else if isNotice f.kind && v.length < 24 then v ++ [writePart now f.kind f.payload (newPeer f.src)]
  else v

/-- R103: a notice from an unlisted station finds the view full. -/
def overflows (f : Frame) (v : List PeerEntry) : Bool := isNotice f.kind && !listed f.src v && 24 ≤ v.length

/-- The draw of a station's load part; 0 without one. -/
def drawAt (station : Nat) (v : List PeerEntry) : Nat :=
  ((v.find? (·.station == station)).bind fun e => e.load.map (·.draw)).getD 0

/-- R112 event 6: a SHED whose threshold reaches the known rank of a listed station whose draw is above its cap. It asks
again in the very event in which the SHED may withdraw the part's claim (DESIGN CHOICE, log entry 51). -/
def shedReasks (f : Frame) (v : List PeerEntry) : Bool :=
  f.kind == kindShed && (shedOf f.payload).any fun (threshold, cap, _) =>
    v.any fun e => e.load.any fun l => cap < l.draw && l.rank.any fun r => threshold ≤ r

/-- R101, R103, R112: SA takes a frame into the view. -/
def takeFrame (f : Frame) (s : State) : State :=
  let now := s.now
  let view := viewAfter now f s.sa.view
  let full := overflows f s.sa.view
  let ask := drawAt f.src view < drawAt f.src s.sa.view || shedReasks f s.sa.view
  s.onSa fun a =>
    { a with view := view, overflow := if full then 8 else a.overflow, reask := a.reask || ask }

/-! ## Acceptance (R160) -/

/-- R160: a group address that the part answers to. -/
def ownGroupMatches (c : Configuration) (dst : Nat) : Bool :=
  64 ≤ dst && dst ≤ 127
    && ((BitVec.ofNat 6 dst ^^^ BitVec.ofNat 6 c.ownGroup) &&& ~~~ BitVec.ofNat 6 c.groupMask) == 0#6

/-- R160, R163: the destination is the part's. The number of a listen-only part matches none. -/
def isOurs (s : State) (dst : Nat) : Bool :=
  (!listenOnly s && dst == s.li.own) || dst == 63 || ownGroupMatches s.rp.cfg dst

/-- The kinds of answers and completions. -/
def isReply (kind : Nat) : Bool := kind == kindAnswer || kind == kindCompletion

/-- R160: the frame is placed in the receive queue. -/
def isPlaced (s : State) (f : Frame) : Bool :=
  !listenOnly s && isOurs s f.dst && !isNotice f.kind && !isReply f.kind && (f.kind == kindOrder || f.dst == s.li.own)
    && s.li.receive.length < 4

/-- R160: the acknowledge slot is driven dominant. A listen-only part drives none. -/
def isAcknowledged (s : State) (f : Frame) : Bool :=
  !listenOnly s && isOurs s f.dst && (isNotice f.kind || isReply f.kind || isPlaced s f)

/-- A source that SA takes into the view (R101 case 1, R160). -/
def validSource (s : State) (src : Nat) : Bool := src != 0 && src != 63 && src != s.li.own

/-! ## Station conflict (R117, R159) -/

/-- R159, R117: the count is set to 8; at a start SA withdraws a queued claim and owes a lowering notice. -/
def setConflict (s : State) : State :=
  let starts := s.li.conflict == 0
  let s := s.onLi fun l => { l with conflict := 8 }
  if starts then withdrawClaim (s.onSa fun a => { a with mustAnnounce := true }) else s

/-! ## Sheds (R115, R116) -/

/-- The claim whose figure is above the shed's cap is withdrawn; one at or below it stays (R115 step 4). -/
def dropClaimAbove (cap : Nat) (s : State) : State :=
  if (claimFigure s).any fun b => max cap s.rp.cfg.floor < b then withdrawClaim s else s

/-- R116: a shed that holds ends, a re-ask event. -/
def endShed (s : State) : State :=
  if s.sa.shed.isSome then askAgain (s.onSa fun a => { a with shed := none }) else s

/-- R115: a SHED acts on the shed state when its rank threshold reaches the part's rank. -/
def takeShed (src threshold cap hold : Nat) (s : State) : State :=
  if threshold ≤ s.rp.cfg.ownRank then
    let raised := s.sa.shed.any fun h => h.cap < cap
    let s := s.onSa fun a =>
      { a with shed := some ⟨src, cap, ticks hold⟩, mustAnnounce := true, reask := a.reask || raised }
    dropClaimAbove cap s
  else endShed s

/-- R115, R116: what an accepted SHED or SHED END does. -/
def actOnShed (f : Frame) (s : State) : State :=
  if !isOurs s f.dst then s
  else if f.kind == kindShed then
    match shedOf f.payload with
    | some (threshold, cap, hold) => takeShed f.src threshold cap hold s
    | none => s
  else if f.kind == kindShedEnd && f.payload.isEmpty && s.sa.shed.any (·.src == f.src) then endShed s
  else s

/-! ## Received frames (R155, R160) -/

/-- The part can receive: the line is not HELD and no frame of its own is on it. -/
def canReceive (s : State) : Bool := s.li.line != .held && s.li.sending.isNone

/-- R153, R157: another station's first start bit. In SETTLING or IDLE the line becomes BUSY, the part a receiver, and
the extra wait is spent. The frame that the part lost to or collided with is BUSY already, and spends no wait, since the
wait begins beyond the next IDLE. The commands of a received frame begin with it (DESIGN CHOICE, log entry 24). -/
def hearStartBit (s : State) : State :=
  s.onLi fun l =>
    if l.line == .settling || l.line == .idle then { l with line := .busy, extraWait := none } else l

/-- R153: the line after the end of a frame, or after its voiding. -/
def leaveBusy (ack : Bool) (s : State) : State := s.onLi fun l => { l with line := .settling, ackDriven := ack }

/-- R160: LI's part at the frame's end: the acknowledge slot, the receive queue, and SETTLING. -/
def lineTakes (f : Frame) (s : State) : State :=
  let ok := validSource s f.src
  let ack := ok && isAcknowledged s f
  let placed := ok && isPlaced s f
  (leaveBusy ack s).onLi fun l => { l with receive := if placed then l.receive ++ [f] else l.receive }

/-- R101, R111, R115, R116, R159: SA's part at the frame's end. -/
def supplyTakes (f : Frame) (s : State) : State :=
  if validSource s f.src then testClaim (actOnShed f (takeFrame f s))
  else if f.src == s.li.own && f.src != 0 && f.src != 63 then setConflict s
  else s

/-- A good received frame, from its first start bit to its end. -/
def receiveGood (f : Frame) (s : State) : State :=
  if canReceive s then finish (supplyTakes f (lineTakes f (hearStartBit s))) else s

/-- RECEIVED_LOAD_NOTICE (R101, R160). -/
def execReceivedLoadNotice (src dst : Nat) (payload : List Nat) (s : State) : Result :=
  .next (receiveGood ⟨1, src, dst, kindLoadNotice, payload⟩ s)

/-- RECEIVED_CLAIM (R101, R160). -/
def execReceivedClaim (src dst : Nat) (payload : List Nat) (s : State) : Result :=
  .next (receiveGood ⟨1, src, dst, kindClaim, payload⟩ s)

/-- SHED (R115). -/
def execShed (src dst : Nat) (payload : List Nat) (s : State) : Result :=
  .next (receiveGood ⟨0, src, dst, kindShed, payload⟩ s)

/-- SHED_END (R116). -/
def execShedEnd (src dst : Nat) (payload : List Nat) (s : State) : Result :=
  .next (receiveGood ⟨0, src, dst, kindShedEnd, payload⟩ s)

/-- MOTION_NOTICE (R101). -/
def execMotionNotice (src dst : Nat) (payload : List Nat) (s : State) : Result :=
  .next (receiveGood ⟨3, src, dst, kindMotion, payload⟩ s)

/-- TANK_NOTICE (R101). -/
def execTankNotice (src dst : Nat) (payload : List Nat) (s : State) : Result :=
  .next (receiveGood ⟨3, src, dst, kindTank, payload⟩ s)

/-- ORDER_ACCEPTED (R160): a frame for the receive queue. -/
def execOrderAccepted (f : Frame) (s : State) : Result := .next (receiveGood f s)

/-- RECEIVED_ANSWER_OR_COMPLETION (R160): acknowledged and discarded, its source taken into the view. -/
def execReceivedAnswerOrCompletion (f : Frame) (s : State) : Result := .next (receiveGood f s)

/-- GOOD_FRAME_NOT_ACCEPTED (R160): handed to SA, not acknowledged. -/
def execGoodFrameNotAccepted (f : Frame) (s : State) : Result := .next (receiveGood f s)

/-- FRAME_VOID (R155): discarded silently; its voiding ends BUSY. -/
def execFrameVoid (s : State) : Result := .next (if canReceive s then leaveBusy false (hearStartBit s) else s)

/-! ## Sending (R157, R162, R163) -/

/-- R162: the place of the next frame. -/
def choosePlace (s : State) : Option Place :=
  if s.li.slot.isSome then some .supply
  else if !s.li.answers.isEmpty then some .answer
  else if !s.li.completions.isEmpty then some .completion
  else none

/-- The line may reach IDLE: no frame is in progress and it is not HELD. -/
def mayIdle (s : State) : Bool := (s.li.line == .settling || s.li.line == .idle) && s.li.sending.isNone

/-- R162: LI chooses a frame and begins it, or the line stays IDLE. -/
def beginFrame (s : State) : State :=
  let place := if listenOnly s then none else choosePlace s
  s.onLi fun l => { l with sending := place, extraWait := none, line := if place.isSome then .busy else .idle }

/-- SEND_ATTEMPT (R111, R162): at IDLE, after any extra wait, the claim is tested and a frame begins. -/
def execSendAttempt (s : State) : Result :=
  .next (if mayIdle s then finish (beginFrame (testClaim s)) else s)

/-- R162: the follower or the held withdrawal of a supply frame that lost or collided takes effect. -/
def returnSupply (l : LiState) : LiState :=
  match l.follower with
  | .nothing => l
  | .frame f => { l with slot := some f, follower := .nothing }
  | .withdrawal => { l with slot := none, follower := .nothing }

/-- The part's frame leaves the line without its end, and the part becomes a receiver (R157). -/
def stopSending (s : State) : State :=
  let supply := supplyOnLine s
  let s := s.onLi fun l => { (if supply then returnSupply l else l) with sending := none, line := .busy }
  if supply then
    s.onSa fun a => { a with reask := a.reask || a.claimOwed, claimOwed := false }
  else s

/-- ARBITRATION_LOST (R157 case 1): the frame stays queued, and a claim is tested. -/
def execArbitrationLost (s : State) : Result :=
  .next (if s.li.sending.isSome then finish (testClaim (stopSending s)) else s)

/-- R157 case 2: the extra wait, a free count of 0..31 bit times. -/
def setExtraWait (s : State) : State :=
  (s.onLi fun l => { l with extraWait := some (Config.freeExtraWait s.freeCount).toNat }).withFreeCount (s.freeCount + 1)

/-- COLLISION (R157 case 2, R159): station conflict and the extra wait are set, and a claim is tested. -/
def execCollision (s : State) : Result :=
  .next (if s.li.sending.isSome then finish (testClaim (setConflict (setExtraWait (stopSending s)))) else s)

/-- R105, R163: a supply frame has ended: A takes its figure, the follower takes the slot, and a claim walk follows when
a claim ended or a claim walk was put off (R110, R111, R113), as it does when the allotment has changed. -/
def endSupplyFrame (s : State) : State :=
  let claim := claimOnLine s
  let figure := (s.li.slot.map (·.figure)).getD s.sa.announced
  let s := s.onLi fun l =>
    { l with slot := (match l.follower with
                      | .frame f => some f
                      | .nothing | .withdrawal => none),
             follower := .nothing, sending := none, line := .settling }
  s.onSa fun a =>
    { a with announced := figure, reask := a.reask || a.claimOwed || claim, claimOwed := false }

/-- R163: an answer or completion that has ended on the line is gone. -/
def endAnswer (s : State) : State :=
  s.onLi fun l => { l with answers := l.answers.drop 1, sending := none, line := .settling }

def endCompletion (s : State) : State :=
  s.onLi fun l => { l with completions := l.completions.drop 1, sending := none, line := .settling }

/-- R172: the answer on the line is the one a DEVICE RESET waits on. -/
def endsReset (s : State) : Bool := (s.li.answers.head?).any (·.reset)

/-- OWN_FRAME_END (R163): the same whether the frame was acknowledged or not. -/
def execOwnFrameEnd (_ack : Bool) (s : State) : Result :=
  .next
    (match s.li.sending with
     | some .supply => finish (endSupplyFrame s)
     | some .answer => finish (if endsReset s then deviceReset (endAnswer s) else endAnswer s)
     | some .completion => finish (endCompletion s)
     | none => s)

/-! ## The line reset condition (R158) and its end (R153) -/

/-- LINE_RESET_CONDITION (R158, R118, R172): taken once in each dominant hold. -/
def execLineResetCondition (s : State) : Result :=
  .next
    (if s.li.line == .held then s
     else
       let reset := s.li.answers.any (·.reset)
       let s := (resetLine s).onLi fun l => { l with line := .held }
       finish (if reset then deviceReset s else s))

/-- LINE_RELEASED (R153): HELD ends. -/
def execLineReleased (s : State) : Result :=
  .next (if s.li.line == .held then s.onLi fun l => { l with line := .settling } else s)

/-! ## The refresh tick (R102, R103, R106, R114, R159) -/

/-- R102: an entry at a refresh tick. -/
def ageEntry (e : PeerEntry) : PeerEntry :=
  if e.heard then { e with heard := false }
  else { e with age := e.age + 1, stale := e.stale || 3 ≤ e.age + 1 }

/-- R102: the view after a tick; entries at age 8 are removed. -/
def agedView (v : List PeerEntry) : List PeerEntry := (v.map ageEntry).filter (·.age < 8)

/-- R102: the view is walked; a removal is a re-ask event. -/
def ageView (s : State) : State :=
  let v := agedView s.sa.view
  s.onSa fun a => { a with view := v, reask := a.reask || v.length < a.view.length }

/-- A count lowered to 0 by a tick has ended. -/
def endsNow (n : Nat) : Bool := n == 1

/-- R103, R106, R159: the three counts at a tick; the end of each is a re-ask event. -/
def lowerCounts (s : State) : State :=
  let conflictEnds := endsNow s.li.conflict
  let s := s.onLi fun l => { l with conflict := l.conflict - 1 }
  s.onSa fun a =>
    { a with overflow := a.overflow - 1, settle := a.settle - 1,
             reask := a.reask || conflictEnds || endsNow a.overflow || endsNow a.settle }

/-- R114: the periodic LOAD NOTICE, when no claim is queued or on the line. -/
def periodicNotice (s : State) : State :=
  if (claimFigure s).isNone then placeSupply ⟨false, announceFigure s⟩ s else s

/-- REFRESH_TICK (R102, R114): everything a tick does, the ends it brings about among it (DESIGN CHOICE, log entry
23). The notice carries the grants as the tick's reactions leave them. -/
def execRefreshTick (s : State) : Result :=
  .next (finish (periodicNotice (settleAll (lowerCounts (ageView (s.onSa fun a => { a with refreshTimer := 0 }))))))

/-- ENTRY_AGED_OUT (R102): the entry of a station is removed, a re-ask event. -/
def execEntryAgedOut (station : Nat) (s : State) : Result :=
  .next
    (if listed station s.sa.view then
      finish (askAgain (s.onSa fun a => { a with view := a.view.filter (·.station != station) }))
     else s)

/-- VIEW_OVERFLOW_END (R103): the count reaches 0, a re-ask event. -/
def execViewOverflowEnd (s : State) : Result :=
  .next (if s.sa.overflow > 0 then finish (askAgain (s.onSa fun a => { a with overflow := 0 })) else s)

/-- SETTLE_END (R106): the count reaches 0, a re-ask event. -/
def execSettleEnd (s : State) : Result :=
  .next (if s.sa.settle > 0 then finish (askAgain (s.onSa fun a => { a with settle := 0 })) else s)

/-- STATION_CONFLICT_END (R159, R117): the count reaches 0; the allotment returns to A, a re-ask event. -/
def execStationConflictEnd (s : State) : Result :=
  .next (if s.li.conflict > 0 then finish (askAgain (s.onLi fun l => { l with conflict := 0 })) else s)

/-- DEFERRAL_TIMER_EXPIRY (R112): SA asks again; with no load DEFERRED nothing happens. -/
def execDeferralTimerExpiry (s : State) : Result :=
  .next
    (if s.sa.deferral.isSome then
      let s := s.onSa fun a => { a with deferral := none, reask := a.reask || a.statuses.anyDeferred }
      finish s
     else s)

/-- SHED_HOLD_EXPIRY (R116): the shed ends. -/
def execShedHoldExpiry (s : State) : Result := .next (if s.sa.shed.isSome then finish (endShed s) else s)

end Sys2Proof.Machine
end

