-- ==== Sys2Proof/Machine/WaterEvents.lean ====
section
/-! DEFINITION. The events of the Hydraulics Controller and the Softener Unit (chapters 2 to 4): pulses, the fill and
its timers, the sample, level readings, circulation, the diverter, turbidity, the end of HOLD, drains, the leak, the
service items and the step limit. -/

namespace Sys2Proof.Machine

/-! ## Flow pulses (R27 to R30, R48, R52, R55, R71) -/

/-- R27, R31: a pulse is counted for the fill and restarts its no-flow timer. -/
def countFillPulse (s : State) : State := s.onHc fun h => { h with pulses := h.pulses + 1, noFlowTimer := 0 }

/-- R29 case 4: one further pulse would carry the soft volume past the plan's Vs. -/
def softFull (s : State) : Bool :=
  s.su.plan.any fun p =>
    p.vs < s.hc.softDone + volume s.rp.cfg (s.hc.pulses + 1) - volume s.rp.cfg s.hc.softFrom

/-- A pulse counted on SOFT charges the bed, and may be the last of the segment. -/
def softPulse (s : State) : State :=
  if s.hc.fillState == .soft then
    let s := chargeSoft s
    if softFull s then leaveSoft s else s
  else s

/-- R29 case 1, R48: at 250 mL the plan is asked for, once, and the sample takes its first reading. -/
def askPlan (cond : Nat) (s : State) : State :=
  if !s.hc.planAsked && 250 ≤ delivered s then
    (s.onHc fun h => { h with planAsked := true }).onSu fun u => { u with sample := some ⟨[cond], 0⟩ }
  else s

/-- R52 case 2: the target is reached with no water softened: Vb is V and Vs is 0. -/
def planTooLate (s : State) : State :=
  if softVolume s == 0 then
    let v := s.hc.fillTarget
    s.onSu fun u => { u with plan := u.plan.map fun p => { p with vb := v, vs := 0 } }
  else s

/-- R30 case 1: the target is reached: the fill ends with the level NORMAL or HIGH, and tops up below it. -/
def reachTarget (s : State) : State :=
  if s.hc.fillState != .topup && s.hc.fillTarget ≤ delivered s then
    let s := leaveSoft (planTooLate s)
    if levelUp s then endFill s else s.onHc fun h => { h with fillState := .topup, route := .bypass }
  else s

/-- A pulse of the fill. -/
def fillPulse (cond : Nat) (s : State) : State := reachTarget (askPlan cond (softPulse (countFillPulse s)))

/-- R27, R71 case 4: a pulse of a regeneration step, which may end it. -/
def stepPulse (r : RegenRecord) (s : State) : State :=
  let s := s.onHc fun h => { h with pulses := h.pulses + 1 }
  let r := { r with vol := delivered s }
  let s := onRegen (fun _ => r) s
  if stepVolume s.rp.cfg r.seq ≤ r.vol then endStep r s else s

/-- FLOW_PULSE (R27): counted for the owner of the open inlet; discarded while the valve is closed. -/
def execFlowPulse (cond : Nat) (s : State) : Result :=
  .next
    (if fillValveOpen s then finish (fillPulse cond (s.onPins fun p => { p with cond := cond }))
     else if (flowingStep s).isSome then
       match s.su.regen with
       | some r => finish (stepPulse r s)
       | none => s
     else s)

/-! ## The timers of a fill (R31) -/

/-- R31: the fill is closed as at an abort, and the fault is reported. -/
def failFill (cause : Cause) (s : State) : State := fault cause (closeFill s)

/-- FILL_TIMEOUT (R31 case 1). -/
def execFillTimeout (s : State) : Result :=
  .next
    (if fillValveOpen s then
      let limit := ticks s.rp.cfg.fillTimeout
      finish (failFill .fillSlow (s.onHc fun h => { h with fillTimer := limit }))
     else s)

/-- NO_FLOW_TIMEOUT (R31 case 2). -/
def execNoFlowTimeout (s : State) : Result :=
  .next
    (if fillValveOpen s then finish (failFill .noFlow (s.onHc fun h => { h with noFlowTimer := ticks 30 })) else s)

/-! ## The hardness sample (R48, R49) -/

/-- SAMPLE_READING (R48): one of the sample's eight readings. -/
def execSampleReading (cond : Nat) (s : State) : Result :=
  .next
    (if fillValveOpen s && s.su.sample.any (·.readings.length < 8) then
      finish ((s.onSu fun u =>
        { u with sample := u.sample.map fun p => { p with readings := p.readings ++ [cond] } }).onPins fun p =>
          { p with cond := cond })
     else s)

/-- SAMPLE_END (R49, R51, R53): Hin is formed and the plan answered. -/
def execSampleEnd (s : State) : Result :=
  .next (if fillValveOpen s && s.su.sample.isSome then finish (planFill (formHardness s)) else s)

/-! ## Level readings (R28) -/

/-- R30: the new reading ends the fill: HIGH in any open state, or NORMAL in TOPUP. -/
def levelEndsFill (s : State) : Bool :=
  s.hc.owner == .fill && fillOpen s.hc.fillState
    && (s.hc.level == .high || (s.hc.fillState == .topup && s.hc.level == .normal))

def levelFill (s : State) : State := if levelEndsFill s then endFill s else s

/-- LEVEL_READING_CHANGE (R28, R30, R37). -/
def execLevelReadingChange (lvl0 lvl1 lvl2 : Bool) (s : State) : Result :=
  let s := s.onPins fun p => { p with lvl0 := lvl0, lvl1 := lvl1, lvl2 := lvl2 }
  .next (finish (drainLevel (levelFill (s.onHc fun h => { h with level := levelOf lvl0 lvl1 lvl2 }))))

/-! ## Circulation (R34) and the diverter (R35, R36) -/

/-- CIRCULATION_PERIOD_END (R34 case 1): a raised level is taken into the drive word. -/
def execCirculationPeriodEnd (s : State) : Result :=
  .next
    (if s.rp.configured then finish (s.onHc fun h => { h with drive := max h.drive h.buffer, driveTimer := 0 }) else s)

/-- The reading a running move waits for; BETWEEN as the wanted position is item 4's search for any position. -/
def moveReached (want pos : DivPos) : Bool := pos == want || (want == .between && pos != .between)

/-- R35: the position is the last reading other than BETWEEN. -/
def readDiverter (pos : DivPos) (s : State) : State :=
  (s.onPins fun p => { p with divp := pos }).onHc fun h =>
    { h with divPos := if pos == .between then h.divPos else pos }

/-- R35, R44: the motor stops; a move of service item 4 is counted. -/
def confirmMove (s : State) : State :=
  let s := s.onHc fun h => { h with divWanted := none }
  match s.hc.service with
  | some v => if v.item == 4 then serviceDiverter v s else s
  | none => s

/-- DIVERTER_MOVE_CONFIRMED (R35). A reading passed on the way is taken, and the motor runs on. -/
def execDiverterMoveConfirmed (pos : DivPos) (s : State) : Result :=
  let reached := s.hc.divWanted.any fun w => moveReached w pos
  let s := readDiverter pos s
  .next (finish (if reached then confirmMove s else s))

/-- R36 case 2, R44: a move that failed. -/
def failMove (s : State) : State :=
  let s := s.onHc fun h => { h with divWanted := none, divTimer := 32 }
  if serviceAt 4 s then nextItem (markFailed 4 s)
  else raiseCondition .hwDiverter (s.onHc fun h => { h with divBlocked := true })

/-- DIVERTER_MOVE_TIMEOUT (R36 case 2, R44). -/
def execDiverterMoveTimeout (s : State) : Result :=
  .next (if s.hc.divWanted.isSome then finish (failMove s) else s)

/-- R41: circulation runs, as the circulation time counts it, from the grant of its level on, the rest of a drive period
before the pump is driven (R34) among it (DESIGN CHOICE, log entry 63). -/
def circulationOn (s : State) : Bool := s.hc.buffer ≥ 1

/-- Circulation runs while the driven level is 1 or more (R33). -/
def circulating (s : State) : Bool := s.hc.drive ≥ 1

/-- The ALTERNATE timer counts (R36 case 1). -/
def alternating (s : State) : Bool :=
  moving s && s.hc.pattern == some .alternate && !s.hc.divBlocked && circulating s

/-- R36 case 1: the other end of the ring. -/
def otherEnd (p : DivPos) : DivPos := if p == .upper then .lower else .upper

/-- ALTERNATE_TIMER (R36 case 1). The 60 s count from the moment a move is asked for (DESIGN CHOICE, log entry 59). -/
def execAlternateTimer (s : State) : Result :=
  .next
    (if alternating s then
      let want := otherEnd (s.hc.divWanted.getD s.hc.divPos)
      finish (moveDiverter want (s.onHc fun h => { h with altTimer := 0 }))
     else s)

/-! ## Turbidity (R41, R42) and the end of HOLD (R5) -/

/-- R41 case 3: a due reading is taken. -/
def readsTurbidity (s : State) : Bool :=
  moving s && s.cs.ctx.stage == .hold && s.cs.holdStarted && circulating s && ticks 60 ≤ s.hc.circTime

/-- TURBIDITY_READING (R41, R42). -/
def execTurbidityReading (raw : Nat) (s : State) : Result :=
  let s := s.onPins fun p => { p with turb := raw }
  .next
    (finish
      (if readsTurbidity s then
        let cls := soilClassOf s.rp.cfg raw
        s.onHc fun h => { h with turbCount := h.turbCount + 1, turbClass := some cls }
       else s))

/-- The hold timer runs (R5 case 3, R20). -/
def holding (s : State) : Bool := moving s && s.cs.ctx.stage == .hold && s.cs.holdStarted

/-- HOLD_TIMER_END (R5 cases 4 and 5). -/
def execHoldTimerEnd (s : State) : Result :=
  .next
    (if holding s then
      let full := ticks (((currentRecord s).map (·.hold)).getD 0)
      finish (cutPhase (s.onCs fun c => { c with holdTimer := full }))
     else s)

/-! ## Drains (R37, R38) -/

/-- DRAIN_AFTER_RUN_END (R37): the end of a drain whose level reads EMPTY. -/
def execDrainAfterRunEnd (s : State) : Result :=
  .next (if s.hc.drainOn && s.hc.drainEmpty then finish (endDrain s) else s)

/-- R38: the drain goes on as a lingering drain whose end nobody awaits. -/
def lingerDrain (s : State) : State :=
  let limit := ticks s.rp.cfg.drainLimit
  s.onHc fun h => { h with drainLingering := true, drainFor := .nobody, drainTimer := limit }

/-- R23, R38, R175: what the block that asked for the drain makes of its limit. -/
def drainSlow (who : DrainFor) (s : State) : State :=
  match who with
  | .cut | .final => if cycleOn s then endCycle (fault .drainSlow s) else s
  | .recovery => endRecovery (writeRecovered s)
  | .nobody => s

/-- DRAIN_LIMIT (R38). The limit is on the time until the level first reads EMPTY. -/
def execDrainLimit (s : State) : Result :=
  .next
    (if s.hc.drainOn && !s.hc.drainEverEmpty && !s.hc.drainLingering then
      finish (drainSlow s.hc.drainFor (lingerDrain s))
     else s)

/-! ## The leak (R39, R79) -/

/-- R79, R175: the leak response cuts a regeneration; the flush of RECOVERY is then done. -/
def leakRegen (s : State) : State :=
  match s.su.regen with
  | some r =>
    let s := if r.seq == .held then cutHeld r (plain .hwLeak) s else cutBegun r (plain .hwLeak) s
    if r.placement == .recovery then endRecovery s else s
  | none => s

/-- R39: the rest of the part, by the cycle state. -/
def leakCycle (s : State) : State :=
  if s.cs.state == .service then endServiceEarly (fun _ => plain .hwLeak) s
  else faultCycle (plain .hwLeak) false s

/-- LEAK_LATCH_SET (R39). A leak seen while the latch is set has no further effect. -/
def execLeakLatchSet (s : State) : Result :=
  let s := s.onPins fun p => { p with leak := true }
  .next
    (if s.hc.leakLatch then s
     else
       let s := s.onHc fun h => { h with leakLatch := true }
       finish (if s.rp.configured then leakCycle (leakRegen s) else s))

/-! ## The service exercise (R44) -/

/-- Items 1, 2, 3, 5, 6 and 7 end by their time. -/
def timedItem (n : Nat) : Bool := n == 1 || n == 2 || n == 3 || n == 5 || n == 6 || n == 7

/-- SERVICE_ITEM_END (R44): the running item has had its 2 s, and the next is taken. -/
def execServiceItemEnd (s : State) : Result :=
  .next
    (match s.hc.service with
     | some v => if timedItem v.item && !v.waiting then finish (nextItem (markRan v.item s)) else s
     | none => s)

/-- SERVICE_GRANT_TIMEOUT (R44, R96): an item whose load is not granted within 30 s is not run, and a refill held for
its stroke takes effect. -/
def execServiceGrantTimeout (s : State) : Result :=
  .next
    (match s.hc.service with
     | some v =>
       if v.waiting then finish (nextItem (markNotRun v.item (dropOwedStroke s))) else s
     | none => s)

/-! ## The step limit (R71) -/

/-- The step time counts in WRITE WAIT and FLOWING. -/
def stepCounts (r : RegenRecord) : Bool :=
  (r.seq == .brine || r.seq == .displace || r.seq == .flush) && (r.phase == .writeWait || r.phase == .flowing)

/-- R71, R78, R175: the step is cut, and the cut is reported by the placement. -/
def cutSlow (r : RegenRecord) (s : State) : State :=
  let s := cutBegun r ⟨.regenerationSlow, stepNum r.seq⟩ s
  match r.placement with
  | .inCycle | .postCycle => fault .regenerationSlow s
  | .standalone => s
  | .recovery => endRecovery s

/-- STEP_LIMIT_REACHED (R71). -/
def execStepLimitReached (s : State) : Result :=
  .next
    (match s.su.regen with
     | some r => if stepCounts r then finish (cutSlow r s) else s
     | none => s)

end Sys2Proof.Machine
end

