-- ==== Sys2Proof/Machine/DoseEvents.lean ====
section
/-! DEFINITION. The events of the Dosing Unit (chapter 5). -/

namespace Sys2Proof.Machine

/-- The pump of a reservoir runs for the dose job, or for the service exercise. -/
def jobStrokes (res : Reservoir) (s : State) : Bool := s.du.job.any fun j => j.res == res && j.phase == .stroking
def serviceStrokes (res : Reservoir) (s : State) : Bool := s.du.svc.any fun v => v.res == res && v.stroking

/-- R89 case 1: what the sensor's report does; it is discarded while the pump is off. -/
def takeStroke (res : Reservoir) (s : State) : State :=
  if jobStrokes res s then
    match s.du.job with
    | some j => confirmStroke j s
    | none => s
  else if serviceStrokes res s then endServiceStroke res true s
  else s

/-- STROKE_CONFIRMED (R89 case 1, R91, R44). -/
def execStrokeConfirmed (res : Reservoir) (s : State) : Result :=
  .next (if jobStrokes res s || serviceStrokes res s then finish (takeStroke res s) else s)

/-- R89 case 2, R93: the stroke of the dose job is not confirmed. -/
def missJobStroke (s : State) : State :=
  match s.du.job with
  | some j => if j.phase == .stroking then failStroke j s else s
  | none => s

/-- R89 case 2, R93, R44: 2 s without a report, of the pump that runs; only one stroke is in progress at a time. -/
def missStroke (s : State) : State :=
  match s.du.svc with
  | some v => if v.stroking then endServiceStroke v.res false s else missJobStroke s
  | none => missJobStroke s

/-- STROKE_TIMEOUT (R89 case 2). -/
def execStrokeTimeout (s : State) : Result :=
  .next
    (if jobStroking s || serviceStroking s then finish (missStroke s) else s)

/-- R89, R95: the rest is over: the next stroke is asked for, or the job stops while a pause stands. -/
def endRest (s : State) : State :=
  let paused := s.cs.ctx.pauses.any
  onJob (fun j => { j with phase := if paused then .stopped else .waiting, timer := 0 }) s

/-- STROKE_REST_END (R89). -/
def execStrokeRestEnd (s : State) : Result :=
  .next (if s.du.job.any (·.phase == .resting) then finish (endRest s) else s)

/-- LOW_SWITCH_DEBOUNCED (R84, R85). -/
def execLowSwitchDebounced (res : Reservoir) (low : Bool) (s : State) : Result :=
  .next (finish (onTank res (reconcile (thresholdOf s.rp.cfg res) low) s))

end Sys2Proof.Machine
end

