-- ==== Sys2Proof/Machine/HeatEvents.lean ====
section
/-! DEFINITION. The events of the Temperature Controller (chapter 7). -/

namespace Sys2Proof.Machine

/-- R121: a reading in the range 0.0..99.9 °C. -/
def validTemp (t : Int) : Bool := 0 ≤ t && t ≤ 999

/-- R121, R133: a valid reading becomes the tub temperature, and the sensor is GOOD. -/
def takeTemp (t : Nat) (s : State) : State :=
  s.onTc fun x => { x with tub := t, badRun := 0, faulted := false, peak := max x.peak t }

/-- R130: the regulation state of HOLD follows the readings, through a pause too (R132), and with the heater disabled,
where R131's hold "without regulation" wants no stage (DESIGN CHOICE, log entry 78). -/
def regulate (s : State) : State :=
  if inCycle s && s.cs.ctx.stage == .hold && s.tc.target > 0 then
    let hyst := s.rp.cfg.hysteresis
    s.onTc fun x =>
      { x with regOn := if x.tub + hyst < x.setpoint then true else if x.setpoint ≤ x.tub then false else x.regOn }
  else s

/-- R122: the overtemperature latch is set, and in a cycle it is a fault. -/
def setOvertemp (s : State) : State :=
  if s.tc.overtemp then s else fault .hwOvertemperature (s.onTc fun x => { x with overtemp := true })

/-- R122: a valid reading of 85.0 °C or above sets the latch. -/
def checkOvertemp (s : State) : State := if 850 ≤ s.tc.tub then setOvertemp s else s

/-- R127: HEAT ends at the first valid reading at or above the target. In a pause the end waits (DEDUCED, log entry
12). -/
def checkHeatEnd (s : State) : State :=
  if moving s && s.cs.ctx.stage == .heat && s.tc.target ≤ s.tc.tub then beginHold s else s

/-- R140 case 2. -/
def checkCondense (s : State) : State := if condenseOver s then endCondense s else s

/-- R121: a valid reading, with all that it ends or sets. One of 85.0 °C or above sets the latch before HEAT could end
by it (DESIGN CHOICE, log entry 60). -/
def readTemp (t : Nat) (s : State) : State :=
  checkCondense (checkHeatEnd (checkOvertemp (regulate (takeTemp t s))))

/-- TEMPERATURE_READING (R121). A reading outside the range is not used. -/
def execTemperatureReading (t : Int) (s : State) : Result :=
  let s := s.onPins fun p => { p with temp := t }
  .next
    (finish
      (if validTemp t then readTemp t.toNat s else s.onTc fun x => { x with badRun := x.badRun + 1 }))

/-- SENSOR_FAULT (R121): the sensor is FAULTED; in a cycle it is reported once. -/
def execSensorFault (s : State) : Result :=
  .next
    (if s.tc.faulted then s else finish (reportSensor (s.onTc fun x => { x with faulted := true })))

/-- OTC_CUT (R122). -/
def execOtcCut (s : State) : Result :=
  let s := s.onPins fun p => { p with otc := true }
  .next (if s.tc.overtemp then s else finish (setOvertemp s))

/-- R128, R129: HEAT runs with its timers counting, an element energized or not. -/
def heatTimed (energized : Bool) (s : State) : Bool :=
  moving s && s.cs.ctx.stage == .heat && (s.tc.driven > 0) == energized

/-- R128: the element-on limit. -/
def endByElement (s : State) : State :=
  let limit := ticks (60 * s.rp.cfg.elementLimit)
  beginHold (raiseCondition .hwHeater (s.onTc fun x => { x with elementOn := limit, disabled := true, under := true }))

/-- ELEMENT_ON_LIMIT (R128, R131). -/
def execElementOnLimit (s : State) : Result := .next (if heatTimed true s then finish (endByElement s) else s)

/-- R129: why no element was energized. -/
def waitCause (s : State) : Cause := if circulating s && levelUp s then .noHeadroom else .noCirculation

/-- R129: the supply-wait limit. The phase's supply-wait seconds, the sum of its timer (R133), stand with it (log entry
5). -/
def endBySupply (s : State) : State :=
  let limit := ticks (60 * s.rp.cfg.supplyLimit)
  let cause := waitCause s
  beginHold (raiseCondition cause
    (s.onTc fun x =>
      { x with supplyWait := limit, waitTicks := x.waitTicks + (limit - x.supplyWait), setpoint := min x.tub x.target,
               under := true }))

/-- The supply-wait timer counts (R129). -/
def supplyWaits (s : State) : Bool := heatTimed false s && !s.tc.overtemp && !s.tc.faulted

/-- SUPPLY_WAIT_LIMIT (R129). -/
def execSupplyWaitLimit (s : State) : Result := .next (if supplyWaits s then finish (endBySupply s) else s)

end Sys2Proof.Machine
end

