-- ==== Sys2Proof/Machine/DryEvents.lean ====
section
/-! DEFINITION. The events of the door, the arm and the drying stages (chapter 8). -/

namespace Sys2Proof.Machine

/-- R45: the door leaving LATCHED ends the service exercise. -/
def doorService (was : Door) (s : State) : State :=
  if s.cs.state == .service && was == .latched && s.dc.door != .latched then
    endServiceEarly (fun item => ⟨.doorOpened, item⟩) s
  else s

/-- R136: a new door reading, with all that it acts on. -/
def readDoor (d : Door) (s : State) : State :=
  let was := s.dc.door
  doorDrying (doorService was (doorPause was (doorMarks (s.onDc fun x => { x with door := d }))))

/-- DOOR_READING_CHANGE (R136, R18, R45, R144, R148). -/
def execDoorReadingChange (latch ajar : Bool) (s : State) : Result :=
  .next (finish (readDoor (doorOf latch ajar) (s.onPins fun p => { p with latch := latch, ajar := ajar })))

/-- The station has a motion part that is still valid. -/
def motionValid (station : Nat) (s : State) : Bool :=
  s.sa.view.any fun e => e.station == station && e.motion.any (·.valid)

/-- R137: the validity of a station's motion part has run out. -/
def lapseMotion (station : Nat) (s : State) : State :=
  s.onSa fun a =>
    { a with view := a.view.map fun e =>
        if e.station == station then { e with motion := e.motion.map fun m => { m with valid := false } } else e }

/-- MOTION_VALIDITY_LAPSE (R137). -/
def execMotionValidityLapse (station : Nat) (s : State) : Result :=
  .next (if motionValid station s then finish (lapseMotion station s) else s)

/-- The drying record stands at a stage. -/
def dryingAt (st : DryStage) (s : State) : Bool := s.dc.record.any (·.stage == st)

/-- R140: the condense timer stands at the time that ended CONDENSE: the condense time with the water at or below the
open temperature, and twice it otherwise. -/
def condenseTimed (s : State) : State :=
  let cool : Bool := s.tc.tub ≤ s.rp.cfg.openTemp
  onRecord (fun r =>
    { r with condenseTimer := max r.condenseTimer (if cool then ticks r.condense else 2 * ticks r.condense) }) s

/-- CONDENSE_END (R140). -/
def execCondenseEnd (s : State) : Result :=
  .next
    (if s.cs.state == .running && dryingAt .condense s then finish (endCondense (condenseTimed s)) else s)

/-- LREL_DELAY_END (R141): after 0.5 s of latch release ARMX is energized. -/
def execLrelDelayEnd (s : State) : Result :=
  .next (if s.dc.move == .release && s.sa.grants.actuator then finish (startExtension s) else s)

/-- ARM_GAP_READ (R141): GAP read during an extension. -/
def execArmGapRead (s : State) : Result :=
  let s := s.onPins fun p => { p with gap := true, home := false }
  .next (if s.dc.move == .extend && s.dc.arm == .extending then finish (reachGap s) else s)

/-- ARM_HOME_READ (R136, R146, R150). -/
def execArmHomeRead (s : State) : Result :=
  .next (finish (reachHome (s.onPins fun p => { p with home := true, gap := false })))

/-- The arm's motor runs. -/
def armMoves (s : State) : Bool := s.dc.arm == .extending || s.dc.arm == .retracting

/-- ARM_TRAVEL_LIMIT (R143, R146, R150). -/
def execArmTravelLimit (home : Bool) (s : State) : Result :=
  .next
    (if armMoves s then
      let limit := ticks s.rp.cfg.travelLimit
      finish (stallArm home ((s.onDc fun d => { d with travel := limit }).onPins fun p => { p with home := home }))
     else s)

/-- SETTLE_TIMER_END (R145): the settle time has passed in VENT-CLOSED; the re-opening is made by the reactions. -/
def execSettleTimerEnd (s : State) : Result :=
  .next
    (if s.dc.permitted && dryingAt .ventClosed s then
      let full := ticks s.rp.cfg.settleTime
      finish (s.onDc fun d => { d with settle := full })
     else s)

/-- The vent timer counts: after the end of CONDENSE, in every drying stage (R139). -/
def venting (s : State) : Bool :=
  dryingAt .opening s || dryingAt .vent s || dryingAt .ventClosed s || dryingAt .closing s

/-- VENT_TIMER_END (R147). -/
def execVentTimerEnd (s : State) : Result :=
  .next
    (if s.cs.state == .running && venting s then
      finish (endVent (onRecord (fun r => { r with ventTimer := ticks r.vent }) s))
     else s)

end Sys2Proof.Machine
end

