-- ==== Sys2Proof/Machine/RecordEvents.lean ====
section
/-! DEFINITION. The events of the Record Port (R53, R72, R174). -/

namespace Sys2Proof.Machine

/-- R53: the gate opens at the completion of a write that serves it. -/
def openGate (s : State) : State :=
  if s.su.gate == .requested then s.onSu fun u => { u with gate := .opened } else s

/-- R72: the completion of the BRINE start write ends WRITE WAIT. -/
def endWriteWait (s : State) : State :=
  match s.su.regen with
  | some r =>
    if r.seq == .brine && r.phase == .writeWait then
      onRegen (fun x => { x with phase := if regenStopped s r then .stopped else .inletWait }) s
    else s
  | none => s

/-- R174: the record image and the memory take the written figures, and those the write served are told. -/
def completeWrite (w : WriteJob) (s : State) : State :=
  let s := s.onRp fun r => { r with image := w.figures, inFlight := none }
  let s := s.withMemory { s.memory with record := w.figures.bytes }
  let s := if w.gate then openGate s else s
  let s := if w.brine then endWriteWait s else s
  beginWrite s

/-- RECORD_WRITE_COMPLETE (R174). -/
def execRecordWriteComplete (s : State) : Result :=
  .next
    (match s.rp.inFlight with
     | some w => finish (completeWrite w s)
     | none => s)

/-- R174: the write is set pending again, with the cycle-in-progress flag it carried unless a later request names
another; it still serves those it served. -/
def renewWrite (w : WriteJob) (p : Option PendingWrite) : PendingWrite :=
  match p with
  | none => ⟨some w.figures.inProgress, w.gate, w.brine⟩
  | some q => ⟨q.inProgress.or (some w.figures.inProgress), q.gate || w.gate, q.brine || w.brine⟩

/-- RECORD_WRITE_FAILED (R174). -/
def execRecordWriteFailed (s : State) : Result :=
  .next
    (match s.rp.inFlight with
     | some w =>
       finish (beginWrite (s.onRp fun r =>
         { r with inFlight := none, pendingWrite := some (renewWrite w r.pendingWrite) }))
     | none => s)

end Sys2Proof.Machine
end

