-- ==== Sys2Proof/Machine/Clock.lean ====
section
/-! DEFINITION. The passing of time (DESIGN CHOICE, log entries 3 and 25): one tick of 0.25 s counts every timer that
its rule lets count, and gives the events that the timers then make due, in a fixed order. -/

namespace Sys2Proof.Machine

/-- `n` one higher while `on` holds. -/
def countIf (on : Bool) (n : Nat) : Nat := if on then n + 1 else n

/-! ## What a tick counts -/

/-- R29, R31, R34 to R38, R41, R44: HC's timers. Item 5 of the service exercise counts while its pump is
driven (log entry 62). -/
def tickWater (s : State) : State :=
  let fill := fillValveOpen s
  let alt := alternating s
  let circ := moving s && (s.cs.ctx.stage == .heat || s.cs.ctx.stage == .hold) && circulationOn s
  let drives := circulating s
  s.onHc fun h =>
    { h with
      fillTimer := countIf fill h.fillTimer
      noFlowTimer := countIf fill h.noFlowTimer
      driveTimer := if 2 ≤ h.driveTimer then 1 else h.driveTimer + 1
      divTimer := countIf h.divWanted.isSome h.divTimer
      altTimer := countIf alt h.altTimer
      circTime := countIf circ h.circTime
      drainTimer := countIf (h.drainOn && !h.drainEverEmpty && !h.drainLingering) h.drainTimer
      afterTimer := countIf (h.drainOn && h.drainEmpty) h.afterTimer
      service := h.service.map fun v =>
        { v with timer := countIf (timedItem v.item && !v.waiting && (v.item != 5 || drives)) v.timer,
                 wait := countIf v.waiting v.wait } }

/-- R48, R71: the sample's open-valve time and the step time. -/
def tickSoftener (s : State) : State :=
  let fill := fillValveOpen s
  s.onSu fun u =>
    { u with sample := u.sample.map fun p => { p with openTime := countIf fill p.openTime },
             regen := u.regen.map fun r => { r with time := countIf (stepCounts r) r.time } }

/-- R89: the timers of strokes and rests. -/
def tickDosing (s : State) : State :=
  s.onDu fun d =>
    { d with job := d.job.map fun j => { j with timer := countIf (j.phase == .stroking || j.phase == .resting) j.timer },
             svc := d.svc.map fun v => { v with timer := countIf v.stroking v.timer } }

/-- R128, R129, R133: TC's timers and figures. -/
def tickHeat (s : State) : State :=
  let energized := heatTimed true s
  let waits := supplyWaits s
  s.onTc fun x =>
    { x with elementOn := countIf energized x.elementOn, supplyWait := countIf waits x.supplyWait,
             waitTicks := countIf waits x.waitTicks, stage1Ticks := countIf (x.driven == 1) x.stage1Ticks,
             stage2Ticks := countIf (x.driven == 2) x.stage2Ticks }

/-- R153: in 0.25 s without a frame the line has read recessive for 12 bit times: SETTLING has become IDLE (DESIGN
CHOICE, log entry 24). -/
def tickLine (s : State) : State := s.onLi fun l => { l with line := if l.line == .settling then .idle else l.line }

/-- R102, R112, R115: SA's timers. -/
def tickSupply (s : State) : State :=
  s.onSa fun a =>
    { a with refreshTimer := a.refreshTimer + 1, deferral := a.deferral.map (· + 1),
             shed := a.shed.map fun h => { h with hold := h.hold - 1 } }

/-- R139, R141, R145, R146, R151: DC's timers. -/
def tickDoor (s : State) : State :=
  let running := s.cs.state == .running
  let moves := armMoves s
  let releases := s.dc.move == .release && s.sa.grants.actuator
  let settles := s.dc.permitted && dryingAt .ventClosed s
  let fan := s.sa.grants.fan && dryingLive s
  let vents := venting s
  let full := ticks s.rp.cfg.settleTime
  s.onDc fun d =>
    { d with
      travel := countIf moves d.travel
      lrelTimer := countIf releases d.lrelTimer
      settle := min full (countIf settles d.settle)
      fanTicks := countIf fan d.fanTicks
      record := d.record.map fun r =>
        { r with condenseTimer := countIf (running && r.stage == .condense) r.condenseTimer,
                 ventTimer := min (ticks r.vent) (countIf vents r.ventTimer) } }

/-- R177: the energy and the elapsed time of the cycle; R5: the hold timer. -/
def tickCycle (s : State) : State :=
  let on := cycleOn s
  let inPhase := inCycle s
  let draw := drawOf s.rp.cfg s.sa.grants
  let holds := holding s
  (s.onRp fun r =>
    { r with energy := if on then r.energy + draw else r.energy,
             draft := { r.draft with elapsed := countIf inPhase r.draft.elapsed } }).onCs fun c =>
    { c with holdTimer := countIf holds c.holdTimer }

/-- One tick. -/
def elapse (s : State) : State :=
  let s := tickCycle (tickDoor (tickSupply (tickLine (tickHeat (tickDosing (tickSoftener (tickWater s)))))))
  { s with now := s.now + 1 }

/-! ## What is due -/

def dueIf (on : Bool) (c : Instr) : List Instr := if on then [c] else []

/-- R121: a reading every 0.5 s; R121: 2 s of readings outside the range; R122: the cut reported. -/
def dueReadings (s : State) : List Instr :=
  dueIf (s.now % 2 == 0) (.temperatureReading s.pins.temp)
    ++ dueIf (4 ≤ s.tc.badRun && !s.tc.faulted) .sensorFault
    ++ dueIf (s.pins.otc && !s.tc.overtemp) .otcCut

/-- R31, R34, R36 to R38: HC's events. -/
def dueWater (s : State) : List Instr :=
  dueIf (fillValveOpen s && ticks s.rp.cfg.fillTimeout ≤ s.hc.fillTimer) .fillTimeout
    ++ dueIf (fillValveOpen s && ticks 30 ≤ s.hc.noFlowTimer) .noFlowTimeout
    ++ dueIf (2 ≤ s.hc.driveTimer && s.hc.drive < s.hc.buffer) .circulationPeriodEnd
    ++ dueIf (s.hc.divWanted.isSome && 32 ≤ s.hc.divTimer) .diverterMoveTimeout
    ++ dueIf (alternating s && ticks 60 ≤ s.hc.altTimer) .alternateTimer
    ++ dueIf (s.hc.drainOn && s.hc.drainEmpty && ticks s.rp.cfg.afterRun ≤ s.hc.afterTimer) .drainAfterRunEnd
    ++ dueIf (s.hc.drainOn && !s.hc.drainEverEmpty && !s.hc.drainLingering
        && ticks s.rp.cfg.drainLimit ≤ s.hc.drainTimer) .drainLimit
    ++ dueIf (s.hc.service.any fun v => timedItem v.item && !v.waiting && 8 ≤ v.timer) .serviceItemEnd
    ++ dueIf (s.hc.service.any fun v => v.waiting && ticks 30 ≤ v.wait) .serviceGrantTimeout

/-- The HOLD timer stands at a reading of R41: a multiple of 10 s, above 0 and below the hold time. -/
def turbidityDue (full : Nat) (s : State) : Bool :=
  0 < s.cs.holdTimer && s.cs.holdTimer % 40 == 0 && s.cs.holdTimer < full

/-- R5, R41, R48, R49, R71, R89: the events of the phase's work. -/
def dueWork (s : State) : List Instr :=
  let full := ticks (((currentRecord s).map (·.hold)).getD 0)
  dueIf (fillValveOpen s && s.su.sample.any fun p => p.readings.length ≤ p.openTime && p.readings.length < 8)
      (.sampleReading s.pins.cond)
    ++ dueIf (fillValveOpen s && s.su.sample.any fun p => 8 ≤ p.openTime) .sampleEnd
    ++ dueIf (holding s && turbidityDue full s) (.turbidityReading s.pins.turb)
    ++ dueIf (holding s && full ≤ s.cs.holdTimer) .holdTimerEnd
    ++ dueIf (s.su.regen.any fun r => stepCounts r && ticks s.rp.cfg.stepLimit ≤ r.time) .stepLimitReached
    ++ dueIf ((s.du.job.any fun j => j.phase == .stroking && 8 ≤ j.timer)
        || s.du.svc.any fun v => v.stroking && 8 ≤ v.timer) .strokeTimeout
    ++ dueIf (s.du.job.any fun j => j.phase == .resting && 2 ≤ j.timer) .strokeRestEnd

/-- R128, R129: the limits of HEAT. -/
def dueHeat (s : State) : List Instr :=
  dueIf (heatTimed true s && ticks (60 * s.rp.cfg.elementLimit) ≤ s.tc.elementOn) .elementOnLimit
    ++ dueIf (supplyWaits s && ticks (60 * s.rp.cfg.supplyLimit) ≤ s.tc.supplyWait) .supplyWaitLimit

/-- R137: the stations whose motion parts have lapsed. -/
def lapsedStations (s : State) : List Nat :=
  (s.sa.view.filter fun e => e.motion.any fun m => m.valid && m.received + ticks s.rp.cfg.motionValidity ≤ s.now).map
    (·.station)

/-- R137, R140, R141, R143, R145, R147: DC's events. -/
def dueDoor (s : State) : List Instr :=
  (lapsedStations s).map Instr.motionValidityLapse
    ++ dueIf (condenseOver s) .condenseEnd
    ++ dueIf (s.dc.move == .release && s.sa.grants.actuator && 2 ≤ s.dc.lrelTimer) .lrelDelayEnd
    ++ dueIf (armMoves s && ticks s.rp.cfg.travelLimit ≤ s.dc.travel) (.armTravelLimit s.pins.home)
    ++ dueIf (mayReopen s) .settleTimerEnd
    ++ dueIf (s.cs.state == .running && venting s && s.dc.record.any fun r => ticks r.vent ≤ r.ventTimer) .ventTimerEnd

/-- R102, R112, R116: SA's events. -/
def dueSupply (s : State) : List Instr :=
  dueIf (s.sa.shed.any (·.hold == 0)) .shedHoldExpiry
    ++ dueIf (s.sa.deferral.any (ticks 10 ≤ ·)) .deferralTimerExpiry
    ++ dueIf (ticks s.rp.cfg.refreshPeriod ≤ s.sa.refreshTimer) .refreshTick

/-- The commands that a tick makes due. -/
def due (s : State) : List Instr :=
  dueReadings s ++ dueWater s ++ dueWork s ++ dueHeat s ++ dueDoor s ++ dueSupply s

/-- What an empty queue does: time passes, and the events that have come due wait in the queue. -/
def tick (s : State) : State :=
  let s := elapse s
  { s with pending := due s }

end Sys2Proof.Machine
end

