-- ==== Sys2Proof/Machine/Dispatch.lean ====
section
/-! DEFINITION. The dispatch: one command, one meaning. -/

namespace Sys2Proof.Machine

/-- What a command does to everything but the queue. -/
def exec (i : Instr) (s : State) : Host.Outcome State Fault Refusal :=
  match i with
  | .powerOn pins straps chip => Sys2Proof.Machine.execPowerOn pins straps chip s
  | .readyQuery src tag => Sys2Proof.Machine.execReadyQuery src tag s
  | .statusQuery src tag => Sys2Proof.Machine.execStatusQuery src tag s
  | .loadPhases src tag start recs => Sys2Proof.Machine.execLoadPhases src tag start recs s
  | .start src tag => Sys2Proof.Machine.execStart src tag s
  | .pause src tag => Sys2Proof.Machine.execPause src tag s
  | .resume src tag => Sys2Proof.Machine.execResume src tag s
  | .abort src tag => Sys2Proof.Machine.execAbort src tag s
  | .amend src tag target field value => Sys2Proof.Machine.execAmend src tag target field value s
  | .holdAmendments src tag => Sys2Proof.Machine.execHoldAmendments src tag s
  | .releaseAmendments src tag => Sys2Proof.Machine.execReleaseAmendments src tag s
  | .readReport src tag start part => Sys2Proof.Machine.execReadReport src tag start part s
  | .sense src tag => Sys2Proof.Machine.execSense src tag s
  | .reservoirFilled src tag reservoir => Sys2Proof.Machine.execReservoirFilled src tag reservoir s
  | .forceRegeneration src tag => Sys2Proof.Machine.execForceRegeneration src tag s
  | .serviceTest src tag => Sys2Proof.Machine.execServiceTest src tag s
  | .deviceReset src tag => Sys2Proof.Machine.execDeviceReset src tag s
  | .unknownOrder frame => Sys2Proof.Machine.execUnknownOrder frame s
  | .receivedLoadNotice src dst payload => Sys2Proof.Machine.execReceivedLoadNotice src dst payload s
  | .receivedClaim src dst payload => Sys2Proof.Machine.execReceivedClaim src dst payload s
  | .shed src dst payload => Sys2Proof.Machine.execShed src dst payload s
  | .shedEnd src dst payload => Sys2Proof.Machine.execShedEnd src dst payload s
  | .motionNotice src dst payload => Sys2Proof.Machine.execMotionNotice src dst payload s
  | .tankNotice src dst payload => Sys2Proof.Machine.execTankNotice src dst payload s
  | .orderAccepted frame => Sys2Proof.Machine.execOrderAccepted frame s
  | .receivedAnswerOrCompletion frame => Sys2Proof.Machine.execReceivedAnswerOrCompletion frame s
  | .frameVoid => Sys2Proof.Machine.execFrameVoid s
  | .sendAttempt => Sys2Proof.Machine.execSendAttempt s
  | .arbitrationLost => Sys2Proof.Machine.execArbitrationLost s
  | .collision => Sys2Proof.Machine.execCollision s
  | .ownFrameEnd ack => Sys2Proof.Machine.execOwnFrameEnd ack s
  | .lineResetCondition => Sys2Proof.Machine.execLineResetCondition s
  | .refreshTick => Sys2Proof.Machine.execRefreshTick s
  | .entryAgedOut station => Sys2Proof.Machine.execEntryAgedOut station s
  | .viewOverflowEnd => Sys2Proof.Machine.execViewOverflowEnd s
  | .settleEnd => Sys2Proof.Machine.execSettleEnd s
  | .stationConflictEnd => Sys2Proof.Machine.execStationConflictEnd s
  | .deferralTimerExpiry => Sys2Proof.Machine.execDeferralTimerExpiry s
  | .shedHoldExpiry => Sys2Proof.Machine.execShedHoldExpiry s
  | .flowPulse cond => Sys2Proof.Machine.execFlowPulse cond s
  | .fillTimeout => Sys2Proof.Machine.execFillTimeout s
  | .noFlowTimeout => Sys2Proof.Machine.execNoFlowTimeout s
  | .sampleReading cond => Sys2Proof.Machine.execSampleReading cond s
  | .sampleEnd => Sys2Proof.Machine.execSampleEnd s
  | .levelReadingChange lvl0 lvl1 lvl2 => Sys2Proof.Machine.execLevelReadingChange lvl0 lvl1 lvl2 s
  | .circulationPeriodEnd => Sys2Proof.Machine.execCirculationPeriodEnd s
  | .diverterMoveConfirmed pos => Sys2Proof.Machine.execDiverterMoveConfirmed pos s
  | .diverterMoveTimeout => Sys2Proof.Machine.execDiverterMoveTimeout s
  | .alternateTimer => Sys2Proof.Machine.execAlternateTimer s
  | .turbidityReading raw => Sys2Proof.Machine.execTurbidityReading raw s
  | .holdTimerEnd => Sys2Proof.Machine.execHoldTimerEnd s
  | .drainAfterRunEnd => Sys2Proof.Machine.execDrainAfterRunEnd s
  | .drainLimit => Sys2Proof.Machine.execDrainLimit s
  | .leakLatchSet => Sys2Proof.Machine.execLeakLatchSet s
  | .serviceItemEnd => Sys2Proof.Machine.execServiceItemEnd s
  | .serviceGrantTimeout => Sys2Proof.Machine.execServiceGrantTimeout s
  | .stepLimitReached => Sys2Proof.Machine.execStepLimitReached s
  | .strokeConfirmed res => Sys2Proof.Machine.execStrokeConfirmed res s
  | .strokeTimeout => Sys2Proof.Machine.execStrokeTimeout s
  | .strokeRestEnd => Sys2Proof.Machine.execStrokeRestEnd s
  | .lowSwitchDebounced res low => Sys2Proof.Machine.execLowSwitchDebounced res low s
  | .temperatureReading temp => Sys2Proof.Machine.execTemperatureReading temp s
  | .sensorFault => Sys2Proof.Machine.execSensorFault s
  | .otcCut => Sys2Proof.Machine.execOtcCut s
  | .elementOnLimit => Sys2Proof.Machine.execElementOnLimit s
  | .supplyWaitLimit => Sys2Proof.Machine.execSupplyWaitLimit s
  | .doorReadingChange latch ajar => Sys2Proof.Machine.execDoorReadingChange latch ajar s
  | .motionValidityLapse station => Sys2Proof.Machine.execMotionValidityLapse station s
  | .condenseEnd => Sys2Proof.Machine.execCondenseEnd s
  | .lrelDelayEnd => Sys2Proof.Machine.execLrelDelayEnd s
  | .armGapRead => Sys2Proof.Machine.execArmGapRead s
  | .armHomeRead => Sys2Proof.Machine.execArmHomeRead s
  | .armTravelLimit home => Sys2Proof.Machine.execArmTravelLimit home s
  | .settleTimerEnd => Sys2Proof.Machine.execSettleTimerEnd s
  | .ventTimerEnd => Sys2Proof.Machine.execVentTimerEnd s
  | .recordWriteComplete => Sys2Proof.Machine.execRecordWriteComplete s
  | .recordWriteFailed => Sys2Proof.Machine.execRecordWriteFailed s
  | .lineReleased => Sys2Proof.Machine.execLineReleased s
  | .goodFrameNotAccepted frame => Sys2Proof.Machine.execGoodFrameNotAccepted frame s

end Sys2Proof.Machine
end

