-- ==== Sys2Proof/Machine/Step.lean ====
section
/-! DEFINITION. One step of the part: the command at the front of the queue; with an empty queue, the oldest order of
the receive queue when OH may take it (R161); else one tick of time (DESIGN CHOICE, log entries 3 and 4). -/

namespace Sys2Proof.Machine

/-- The step on an empty queue. -/
def idleStep (s : State) : Host.Outcome State Fault Refusal :=
  if ohReady s then
    match s.li.receive with
    | f :: _ => exec (decodeFrame f) s
    | [] => .next (tick s)
  else .next (tick s)

/-- One step. -/
def step (s : State) : Host.Outcome State Fault Refusal :=
  match s.pending with
  | c :: rest => exec c { s with pending := rest }
  | [] => idleStep s

/-- The state with the command that a word spells put at the front of its queue; unchanged where it spells none. -/
def State.withFetchWord (s : State) (nbits w : Nat) : State :=
  match decodeTableWord nbits w with
  | some c => { s with pending := c :: s.pending }
  | none => s

end Sys2Proof.Machine
end

