-- ==== Sys2Proof/Machine/Frames.lean ====
section
/-! DEFINITION. Frames as bytes on the line (R154 to R157, section 9.3): the bytes of a frame, which bytes are a good
frame and which are void, the frame that the part has on the line, and who goes on when two stations send at once. The
commands begin where these end (DESIGN CHOICE, log entry 24): the world outside tells the part which one came about. -/

namespace Sys2Proof.Machine

/-! ## The frame (R154) -/

/-- Bytes 0 to 3 + length: precedence, destination, kind, length, payload. -/
def frameBody (f : Frame) : List Nat := [f.cls * 64 + f.src, f.dst, f.kind, f.payload.length] ++ f.payload

/-- The bytes of a frame, the check last. -/
def frameBytes (f : Frame) : List Nat := frameBody f ++ [crc8 (frameBody f)]

/-! ## Bits (R153) -/

/-- R153: the ten bits of a byte, true for recessive: a dominant start bit, eight data bits, most significant first, and
a recessive stop bit. -/
def byteBits (b : Nat) : List Bool :=
  [false] ++ ([7, 6, 5, 4, 3, 2, 1, 0].map fun i => b / 2 ^ i % 2 == 1) ++ [true]

/-- R153: the bits of a run of bytes, without a gap. -/
def lineBits (bytes : List Nat) : List Bool := bytes.flatMap byteBits

/-- The number that eight data bits make. -/
def dataBits (bits : List Bool) : Nat := bits.foldl (fun n b => 2 * n + b.toNat) 0

/-- R155 cases 1 and 2: the bytes that bits make, or none when a stop bit is dominant or a start bit recessive. -/
def readBits : List Bool → Option (List Nat)
  | [] => some []
  | start :: b7 :: b6 :: b5 :: b4 :: b3 :: b2 :: b1 :: b0 :: stop :: rest =>
    if start || !stop then none else (readBits rest).map (dataBits [b7, b6, b5, b4, b3, b2, b1, b0] :: ·)
  | _ => none

/-- R153: the bit times that a frame lasts, its acknowledge slot among them. -/
def frameTime (f : Frame) : Nat := (lineBits (frameBytes f)).length + 1

/-- R155 cases 3 and 4: the frame that bytes make, or none when it is void: a length above 24, a frame cut short, or a
check that does not match. -/
def readFrame : List Nat → Option Frame
  | b0 :: b1 :: b2 :: len :: rest =>
    if 24 < len || rest.length ≤ len then none
    else
      let f : Frame := ⟨b0 / 64, b0 % 64, b1, b2, rest.take len⟩
      if crc8 ([b0, b1, b2, len] ++ rest.take len) == rest.getD len 0 then some f else none
  | _ => none

/-- The command that a good frame is at its end: one of the six notices, an answer or completion for the part, a frame
for the receive queue, or any other (R160). -/
def goodFrameCommand (s : State) (f : Frame) : Instr :=
  if f.kind == kindLoadNotice then .receivedLoadNotice f.src f.dst f.payload
  else if f.kind == kindClaim then .receivedClaim f.src f.dst f.payload
  else if f.kind == kindShed then .shed f.src f.dst f.payload
  else if f.kind == kindShedEnd then .shedEnd f.src f.dst f.payload
  else if f.kind == kindMotion then .motionNotice f.src f.dst f.payload
  else if f.kind == kindTank then .tankNotice f.src f.dst f.payload
  else if validSource s f.src && isReply f.kind && isOurs s f.dst then .receivedAnswerOrCompletion f
  else if validSource s f.src && isPlaced s f then .orderAccepted f
  else .goodFrameNotAccepted f

/-- The command that the bytes of a received frame are. -/
def lineCommand (s : State) (bytes : List Nat) : Instr :=
  match readFrame bytes with
  | some f => goodFrameCommand s f
  | none => .frameVoid

/-- The command that the bits of a received frame are. -/
def bitsCommand (s : State) (bits : List Bool) : Instr := ((readBits bits).map (lineCommand s)).getD .frameVoid

/-! ## What the part sends (R154, R162, section 9.3) -/

/-- A LOAD NOTICE or CLAIM, to all stations, with the part's shed rank. -/
def supplyFrameOf (s : State) (f : SupplyFrame) : Frame :=
  ⟨1, s.li.own, 63, if f.claim then kindClaim else kindLoadNotice, be2 f.figure ++ [s.rp.cfg.ownRank]⟩

def answerFrameOf (s : State) (a : Answer) : Frame :=
  ⟨2, s.li.own, a.dst, kindAnswer, [a.tag, a.status.num] ++ a.sense.bytes ++ a.results⟩

def completionFrameOf (s : State) (c : Completion) : Frame :=
  ⟨3, s.li.own, c.dst, kindCompletion, [c.tag, c.kind.num, c.outcome] ++ c.sense.bytes ++ c.data⟩

/-- The frame that the part has on the line. -/
def frameOnLine (s : State) : Option Frame :=
  match s.li.sending with
  | some .supply => s.li.slot.map (supplyFrameOf s)
  | some .answer => s.li.answers.head?.map (answerFrameOf s)
  | some .completion => s.li.completions.head?.map (completionFrameOf s)
  | none => none

/-! ## Two senders at once (R157) -/

/-- What the part's sending comes to: its frame goes through, it loses in byte 0, or it collides after byte 0. -/
inductive Contest where
  | through | lost | collided
  deriving DecidableEq, Repr

/-- R157: the first byte in which the part's frame differs from another sent in the same bit time. A dominant level is
a 0, so the lower byte overrides, and the part sees a mismatch only where its own is the higher. -/
def contestFrom (inByte0 : Bool) : List Nat → List Nat → Contest
  | mine :: ms, other :: os =>
    if mine == other then contestFrom false ms os
    else if mine < other then .through
    else if inByte0 then .lost else .collided
  | _, _ => .through

def contest (mine other : Frame) : Contest := contestFrom true (frameBytes mine) (frameBytes other)

/-- The command that the outcome is to the part; its end is acknowledged or not. -/
def contestCommand (ack : Bool) : Contest → Instr
  | .through => .ownFrameEnd ack
  | .lost => .arbitrationLost
  | .collided => .collision

end Sys2Proof.Machine
end

