-- ==== Sys2Proof/WellFormed.lean ====
section
/-! DEFINITION. Well-formed commands: every operand within the range that its frame, its converter or its pins can
carry (sections 1.5 and 1.7, chapters 9 to 11). The machine runs an ill-formed command as it stands (DESIGN CHOICE,
log entry 33). -/

namespace Sys2Proof

def isByte (n : Nat) : Bool := n < 256

/-- A source station that a receiver does not discard (R160). -/
def isStation (n : Nat) : Bool := 1 ≤ n && n ≤ 62

/-- A payload of a legal frame (R154). -/
def isPayload (p : List Nat) : Bool := p.length ≤ 24 && p.all isByte

def Frame.wf (f : Frame) : Bool := f.cls < 4 && f.src < 64 && isByte f.dst && isByte f.kind && isPayload f.payload

def SerialMemory.wf (m : SerialMemory) : Bool := m.config.all isByte && m.record.all isByte

def Pins.wf (p : Pins) : Bool := p.cond ≤ 5000 && p.turb ≤ 1023

def RawDrying.wf (d : RawDrying) : Bool := d.condense < 65536 && d.vent < 65536 && isByte d.doorOpen

def RawPhase.wf (r : RawPhase) : Bool :=
  isByte r.kind && r.fill < 65536 && r.temp < 65536 && r.hold < 65536 && isByte r.level && r.pattern < 16
    && r.dose < 16 && r.drying.all RawDrying.wf

/-- The records one LOAD PHASES carries: one, or two without drying parts (section 9.3). -/
def recordsWf : List RawPhase → Bool
  | [a] => a.wf
  | [a, b] => a.wf && b.wf && a.drying.isNone && b.drying.isNone
  | _ => false

def orderWf (src tag : Nat) : Bool := isStation src && isByte tag
def noticeWf (src dst : Nat) (payload : List Nat) : Bool := src < 64 && isByte dst && isPayload payload

/-- A well-formed command. -/
def Instr.wf : Instr → Bool
  | .powerOn pins straps chip => pins.wf && straps < 64 && chip.all SerialMemory.wf
  | .readyQuery src tag | .statusQuery src tag | .start src tag | .pause src tag | .resume src tag | .abort src tag
  | .holdAmendments src tag | .releaseAmendments src tag | .sense src tag | .forceRegeneration src tag
  | .serviceTest src tag | .deviceReset src tag => orderWf src tag
  | .loadPhases src tag first recs => orderWf src tag && isByte first && recordsWf recs
  | .amend src tag target fld value => orderWf src tag && isByte target && isByte fld && value < 65536
  | .readReport src tag first part => orderWf src tag && isByte first && isByte part
  | .reservoirFilled src tag reservoir => orderWf src tag && isByte reservoir
  | .unknownOrder frame | .orderAccepted frame | .receivedAnswerOrCompletion frame | .goodFrameNotAccepted frame =>
    frame.wf
  | .receivedLoadNotice src dst payload | .receivedClaim src dst payload | .shed src dst payload
  | .shedEnd src dst payload | .motionNotice src dst payload | .tankNotice src dst payload => noticeWf src dst payload
  | .entryAgedOut station | .motionValidityLapse station => isStation station
  | .flowPulse cond | .sampleReading cond => cond ≤ 5000
  | .turbidityReading raw => raw ≤ 1023
  | .frameVoid | .sendAttempt | .arbitrationLost | .collision | .ownFrameEnd _ | .lineResetCondition | .refreshTick
  | .viewOverflowEnd | .settleEnd | .stationConflictEnd | .deferralTimerExpiry | .shedHoldExpiry | .fillTimeout
  | .noFlowTimeout | .sampleEnd | .levelReadingChange _ _ _ | .circulationPeriodEnd | .diverterMoveConfirmed _
  | .diverterMoveTimeout | .alternateTimer | .holdTimerEnd | .drainAfterRunEnd | .drainLimit | .leakLatchSet
  | .serviceItemEnd | .serviceGrantTimeout | .stepLimitReached | .strokeConfirmed _ | .strokeTimeout
  | .strokeRestEnd | .lowSwitchDebounced _ _ | .temperatureReading _ | .sensorFault | .otcCut | .elementOnLimit
  | .supplyWaitLimit | .doorReadingChange _ _ | .condenseEnd | .lrelDelayEnd | .armGapRead | .armHomeRead
  | .armTravelLimit _ | .settleTimerEnd | .ventTimerEnd | .recordWriteComplete | .recordWriteFailed | .lineReleased =>
    true

/-- The command is an order that OH decodes from a frame. -/
def Instr.isOrder (c : Instr) : Bool := (Machine.orderBody c).isSome

end Sys2Proof
end

