-- ==== Sys2Proof/Safety.lean ====
section
/-! DEFINITION. What counts as a safe state, in the terms the claims use: the heater interlock (R124), the inlet (R26)
and the fill (R30), the door arm (R141), the supply (R107), the bounds of the part's queues, tables and accounts; the
words in which the claims speak of a command's outcome; and the part of the state that no reaction touches. -/

namespace Sys2Proof.Machine

/-- R124: an element is energized only with every interlock standing, and E2 never alone. -/
def HeaterSafe (s : State) : Prop :=
  (s.out.he1 = true → heaterInterlock s = true ∧ 1 ≤ s.sa.grants.heater) ∧ (s.out.he2 = true → s.out.he1 = true)

/-- R26: the inlet valve is open only for its owner, at work and not stopped. -/
def InletSafe (s : State) : Prop :=
  s.out.vin = true → fillValveOpen s = true ∨ (s.hc.owner = .regen ∧ ∃ r, s.su.regen = some r ∧ r.phase = .flowing)

/-- R30 case 2: no fill of the stage FILL has the inlet open to it at a level that reads HIGH. -/
def FillBelowHigh (s : State) : Prop :=
  s.cs.ctx.stage = .fill → s.hc.owner = .fill → fillOpen s.hc.fillState = true → s.hc.level ≠ .high

/-- R141: ARMX is energized only in an extension, and an opening is under way, or waits for its grant, only in the stage
OPENING while motion is permitted. -/
def ArmGuarded (s : State) : Prop :=
  (s.out.armx = true → s.dc.arm = .extending)
    ∧ (s.dc.arm = .extending ∨ s.dc.move = .release ∨ s.dc.move = .extend →
        dryingAt .opening s = true ∧ s.dc.permitted = true ∧ motionPermitted s = true)

/-- The slot's and the follower's LOAD NOTICES announce the floor or more (R105). -/
def NoticesFloored (s : State) : Prop :=
  (∀ f, s.li.slot = some f → s.rp.cfg.floor ≤ f.figure) ∧ (∀ f, s.li.follower = .frame f → s.rp.cfg.floor ≤ f.figure)

/-- R104, R105: the base load and the drain pump fit the floor, the floor is announced at least, and no frame waits
with less. -/
def SupplyGrounded (s : State) : Prop :=
  s.rp.cfg.baseDraw + s.rp.cfg.drainDraw ≤ s.rp.cfg.floor ∧ s.rp.cfg.floor ≤ s.sa.announced ∧ NoticesFloored s

/-- R107: the declared draws of the granted loads lie within the allotment. -/
def SupplySafe (s : State) : Prop := SupplyGrounded s ∧ drawOf s.rp.cfg s.sa.grants ≤ allotment s

/-- R161, R162, R169: the queues of the line and the sense table keep their bounds. -/
def QueuesBounded (s : State) : Prop :=
  s.li.receive.length ≤ 4 ∧ s.li.answers.length ≤ 4 ∧ s.li.completions.length ≤ 4 ∧ s.oh.senseTable.length ≤ 4

/-- R100: the peer view holds at most 24 entries, one per station at most, and never the part's own number. -/
def ViewSound (s : State) : Prop :=
  s.sa.view.length ≤ 24 ∧ (s.sa.view.map (·.station)).Nodup ∧ s.li.own ∉ s.sa.view.map (·.station)

/-- R3: the cycle list holds at most 12 records, and a DRY record is always last. -/
def ListSound (l : List PhaseRecord) : Prop :=
  l.length ≤ 12 ∧ ∀ i r, l[i]? = some r → r.kind = .dry → i + 1 = l.length

/-- R177: the cycle report holds at most 16 entries. -/
def ReportBounded (s : State) : Prop := s.rp.report.length ≤ 16

/-- R161, R162, R169, R177 and section 1.7: the part's queues, tables and lists keep their bounds. -/
def TablesBounded (s : State) : Prop :=
  QueuesBounded s ∧ ReportBounded s ∧ s.cs.amendments.length ≤ 8

/-- R33: no level is driven above the one that the phase, or the service exercise, asks for. -/
def CirculationSafe (s : State) : Prop := s.out.circ ≤ circWanted s

/-- R18, R20: the cycle is PAUSED just when a pause reason is present. -/
def PauseAgrees (s : State) : Prop := inCycle s = true → (s.cs.state = .paused ↔ s.cs.ctx.pauses.any = true)

/-- R60, R83: the resin account and the reservoir accounts lie within their capacities, and so does everything that
will be written into them. -/
def AccountsSound (s : State) : Prop :=
  s.su.account ≤ s.rp.cfg.bedCapacity ∧ (∀ p ∈ s.su.plan, p.a0 ≤ s.rp.cfg.bedCapacity)
    ∧ (∀ r ∈ s.su.regen, r.credit ≤ s.rp.cfg.bedCapacity) ∧ s.rp.cfg.weakPercent ≤ 100
    ∧ s.du.det.account ≤ s.rp.cfg.detCapacity ∧ s.du.rin.account ≤ s.rp.cfg.rinCapacity
    ∧ s.rp.cfg.detLow ≤ s.rp.cfg.detCapacity ∧ s.rp.cfg.rinLow ≤ s.rp.cfg.rinCapacity

/-! ## The outcome of a command -/

/-- A next state is answered, and `P` holds of it. -/
def Answers (o : Result) (P : State → Prop) : Prop := ∃ t, o = .next t ∧ P t

/-- OH decodes the order `c` (R161, R165): it may decode, and `s0` is the state with the order out of the receive
queue. -/
def Decodes (c : Instr) (s s0 : State) : Prop := ohReady s = true ∧ removeOrder c s = some s0

/-- The sender, the tag and the tests of an order that a rule may refuse. -/
def refusable : Instr → Option (Nat × Nat × (State → Option Sense))
  | .loadPhases src tag start recs => some (src, tag, loadRefusal src start recs)
  | .start src tag => some (src, tag, startTests (some src))
  | .pause src tag => some (src, tag, pauseTests src)
  | .resume src tag => some (src, tag, resumeTests src)
  | .abort src tag => some (src, tag, abortTests)
  | .amend src tag target fld value => some (src, tag, amendTests src target fld value)
  | .holdAmendments src tag => some (src, tag, groupTests src)
  | .releaseAmendments src tag => some (src, tag, groupTests src)
  | .readReport src tag start part => some (src, tag, readRefusal start part)
  | .reservoirFilled src tag reservoir => some (src, tag, filledTests reservoir)
  | .forceRegeneration src tag => some (src, tag, forceTests)
  | .serviceTest src tag => some (src, tag, serviceTests)
  | .deviceReset src tag => some (src, tag, fun _ => none)
  | _ => none

/-- The frame whose good end a command of the line is. -/
def frameOf : Instr → Option Frame
  | .receivedLoadNotice src dst payload => some ⟨1, src, dst, kindLoadNotice, payload⟩
  | .receivedClaim src dst payload => some ⟨1, src, dst, kindClaim, payload⟩
  | .shed src dst payload => some ⟨0, src, dst, kindShed, payload⟩
  | .shedEnd src dst payload => some ⟨0, src, dst, kindShedEnd, payload⟩
  | .motionNotice src dst payload => some ⟨3, src, dst, kindMotion, payload⟩
  | .tankNotice src dst payload => some ⟨3, src, dst, kindTank, payload⟩
  | .orderAccepted f => some f
  | .receivedAnswerOrCompletion f => some f
  | .goodFrameNotAccepted f => some f
  | _ => none

/-- No stage end is held, no drying stage runs, and no fill stands at a level that reads HIGH: nothing but the command's
own effect can move the cycle on. -/
def Steady (s : State) : Prop :=
  s.cs.drainHeld = false ∧ s.cs.fillHeld = false ∧ dryingLive s = false
    ∧ (s.cs.ctx.stage = .fill → s.hc.level ≠ .high)

/-! ## What no reaction touches -/

/-- The figures of the present fill, and the fill record of the last one. -/
structure FillFigures where
  record : FillRecord
  sample : Option Sample
  hin : Option Nat
  cellFault : Bool
  predicted : Nat
  gate : Gate
  deriving DecidableEq, Repr

/-- The figures of a fill while the level does not read HIGH. At HIGH they are left out, since a fill that is granted the
inlet there ends at once (R30 case 2, `endFullFill`). -/
def State.fillFigures (s : State) : Option FillFigures :=
  if s.hc.level = .high then none
  else some ⟨s.cs.ctx.fill, s.su.sample, s.su.hin, s.su.cellFault, s.su.predicted, s.su.gate⟩

/-- The part of the state that only a command's own effect changes: no reaction of `finish` touches it. -/
structure Kept where
  pending : List Instr
  now : Nat
  freeCount : Nat
  pins : Pins
  memory : SerialMemory
  line : LineState
  own : Nat
  receive : List Frame
  answers : List Answer
  sending : Option Place
  extraWait : Option Nat
  conflict : Nat
  ackDriven : Bool
  reportIndex : Nat
  reportPart : Nat
  level : Level
  leakLatch : Bool
  divPos : DivPos
  account : Nat
  regenCount : Nat
  tub : Nat
  badRun : Nat
  faulted : Bool
  overtemp : Bool
  view : List PeerEntry
  overflow : Nat
  settle : Nat
  refreshTimer : Nat
  announced : Nat
  shed : Option Shed
  door : Door
  configured : Bool
  cfg : Configuration
  image : PersistentRecord
  energy : Nat
  rearm : Bool
  regenerating : Bool
  disabled : Bool
  sensorReported : Bool
  groupCounter : Nat
  fill : Option FillFigures
  firstFault : Option Sense
  owner : Option Nat
  startTag : Nat
  serviceReturn : CycleState
  deriving DecidableEq, Repr

/-- What a state has of it. -/
def State.kept (s : State) : Kept where
  pending := s.pending
  now := s.now
  freeCount := s.freeCount
  pins := s.pins
  memory := s.memory
  line := s.li.line
  own := s.li.own
  receive := s.li.receive
  answers := s.li.answers
  sending := s.li.sending
  extraWait := s.li.extraWait
  conflict := s.li.conflict
  ackDriven := s.li.ackDriven
  reportIndex := s.oh.reportIndex
  reportPart := s.oh.reportPart
  level := s.hc.level
  leakLatch := s.hc.leakLatch
  divPos := s.hc.divPos
  account := s.su.account
  regenCount := s.su.regenCount
  tub := s.tc.tub
  badRun := s.tc.badRun
  faulted := s.tc.faulted
  overtemp := s.tc.overtemp
  view := s.sa.view
  overflow := s.sa.overflow
  settle := s.sa.settle
  refreshTimer := s.sa.refreshTimer
  announced := s.sa.announced
  shed := s.sa.shed
  door := s.dc.door
  configured := s.rp.configured
  cfg := s.rp.cfg
  image := s.rp.image
  energy := s.rp.energy
  rearm := s.su.rearm
  regenerating := s.su.regenerating
  disabled := s.tc.disabled
  sensorReported := s.tc.sensorReported
  groupCounter := s.cs.groupCounter
  fill := s.fillFigures
  firstFault := s.cs.ctx.firstFault
  owner := s.cs.ctx.owner
  startTag := s.cs.ctx.startTag
  serviceReturn := s.cs.ctx.serviceReturn

end Sys2Proof.Machine
end

