-- ==== Sys2Proof/Certificates/Slice0/Obligations.lean ====
section
/-! DEFINITION. The statements for the provers. A command's outcome is said with `Answers`; `Decodes c s s0` says that
OH takes the order `c` in `s`, with `s0` the state that has the order out of its receive queue; `State.kept` is the
part of the state that no reaction touches, so that a command's whole effect on it is said by one equation. Where the
reactions of other blocks may follow in the same event, the rest of a statement names what they cannot undo. -/

section

open Sys2Proof Sys2Proof.Machine

/-! ## The machine -/

/-- The command at the front of the queue is executed with the queue's rest. The queue of waiting commands is the
model's own (log entry 2, DESIGN CHOICE). -/
def Obligations.FrontCommandSteps : Prop :=
  ∀ (c : Instr) (rest : List Instr) (s : State), s.pending = c :: rest → step s = exec c { s with pending := rest }

/-- With no command waiting, OH decodes the oldest order when it may (R161), and otherwise a tick of 0.25 s passes:
the model's choices of log entries 3 and 4. A tick counts the clock on and puts the events it makes due into the
queue; it changes no output, grant, sense entry, reservoir, pin or memory, of the line only that SETTLING has become
IDLE (log entry 24), and of the cycle only the hold timer. Each timer that lives and stands at its limit (R31, R34,
R36 to R38, R41, R44, R48, R49, R71, R89, R112, R116, R121, R122, R128, R129, R137, R140, R141, R143, R145, R147, and
R102's refresh) makes its event due. That R121's 2 s of readings out of range are four of them in a row is log entry
40 (DESIGN CHOICE: it could be the fifth). -/
def Obligations.EmptyQueueStep : Prop :=
  (∀ (s : State), s.pending = [] →
    (∀ (f : Frame) (rest : List Frame), ohReady s = true → s.li.receive = f :: rest → step s = exec (decodeFrame f) s)
      ∧ (ohReady s = false ∨ s.li.receive = [] →
          Answers (step s) fun t =>
            t.now = s.now + 1 ∧ t.pending = due t ∧ t.out = s.out ∧ t.sa.grants = s.sa.grants ∧ t.oh = s.oh
              ∧ t.li = { s.li with line := if s.li.line = .settling then .idle else s.li.line }
              ∧ t.du.det = s.du.det ∧ t.du.rin = s.du.rin ∧ t.memory = s.memory ∧ t.pins = s.pins
              ∧ t.cs = { s.cs with holdTimer := t.cs.holdTimer }
              ∧ t.sa.refreshTimer = s.sa.refreshTimer + 1))
  ∧ (∀ (s : State),
    let cfg := s.rp.cfg
    let fills := fillValveOpen s = true
    let hold := 4 * ((currentRecord s).map (·.hold)).getD 0
    let running := s.cs.state = .running
    (s.now % 2 = 0 → .temperatureReading s.pins.temp ∈ due s)
      ∧ (4 ≤ s.tc.badRun → s.tc.faulted = false → .sensorFault ∈ due s)
      ∧ (s.pins.otc = true → s.tc.overtemp = false → .otcCut ∈ due s)
      ∧ (fills → 4 * cfg.fillTimeout ≤ s.hc.fillTimer → .fillTimeout ∈ due s)
      ∧ (fills → 120 ≤ s.hc.noFlowTimer → .noFlowTimeout ∈ due s)
      ∧ (2 ≤ s.hc.driveTimer → s.hc.drive < s.hc.buffer → .circulationPeriodEnd ∈ due s)
      ∧ (s.hc.divWanted.isSome → 32 ≤ s.hc.divTimer → .diverterMoveTimeout ∈ due s)
      ∧ (alternating s = true → 240 ≤ s.hc.altTimer → .alternateTimer ∈ due s)
      ∧ (s.hc.drainOn = true → s.hc.drainEmpty = true → 4 * cfg.afterRun ≤ s.hc.afterTimer → .drainAfterRunEnd ∈ due s)
      ∧ (s.hc.drainOn = true → s.hc.drainEverEmpty = false → s.hc.drainLingering = false →
          4 * cfg.drainLimit ≤ s.hc.drainTimer → .drainLimit ∈ due s)
      ∧ (∀ v ∈ s.hc.service, v.waiting = false → timedItem v.item = true → 8 ≤ v.timer → .serviceItemEnd ∈ due s)
      ∧ (∀ v ∈ s.hc.service, v.waiting = true → 120 ≤ v.wait → .serviceGrantTimeout ∈ due s)
      ∧ (∀ p ∈ s.su.sample, fills → p.readings.length ≤ p.openTime → p.readings.length < 8 →
          .sampleReading s.pins.cond ∈ due s)
      ∧ (∀ p ∈ s.su.sample, fills → 8 ≤ p.openTime → .sampleEnd ∈ due s)
      ∧ (holding s = true → 0 < s.cs.holdTimer → s.cs.holdTimer % 40 = 0 → s.cs.holdTimer < hold →
          .turbidityReading s.pins.turb ∈ due s)
      ∧ (holding s = true → hold ≤ s.cs.holdTimer → .holdTimerEnd ∈ due s)
      ∧ (∀ r ∈ s.su.regen, stepCounts r = true → 4 * cfg.stepLimit ≤ r.time → .stepLimitReached ∈ due s)
      ∧ (∀ j ∈ s.du.job, j.phase = .stroking → 8 ≤ j.timer → .strokeTimeout ∈ due s)
      ∧ (∀ v ∈ s.du.svc, v.stroking = true → 8 ≤ v.timer → .strokeTimeout ∈ due s)
      ∧ (∀ j ∈ s.du.job, j.phase = .resting → 2 ≤ j.timer → .strokeRestEnd ∈ due s)
      ∧ (heatTimed true s = true → 240 * cfg.elementLimit ≤ s.tc.elementOn → .elementOnLimit ∈ due s)
      ∧ (supplyWaits s = true → 240 * cfg.supplyLimit ≤ s.tc.supplyWait → .supplyWaitLimit ∈ due s)
      ∧ (∀ e ∈ s.sa.view, ∀ m ∈ e.motion, m.valid = true → m.received + 4 * cfg.motionValidity ≤ s.now →
          .motionValidityLapse e.station ∈ due s)
      ∧ (∀ r ∈ s.dc.record, running → r.stage = .condense → 4 * r.condense ≤ r.condenseTimer →
          s.tc.tub ≤ cfg.openTemp ∨ 8 * r.condense ≤ r.condenseTimer → .condenseEnd ∈ due s)
      ∧ (s.dc.move = .release → s.sa.grants.actuator = true → 2 ≤ s.dc.lrelTimer → .lrelDelayEnd ∈ due s)
      ∧ (armMoves s = true → 4 * cfg.travelLimit ≤ s.dc.travel → .armTravelLimit s.pins.home ∈ due s)
      ∧ (mayReopen s = true → .settleTimerEnd ∈ due s)
      ∧ (∀ r ∈ s.dc.record, running → venting s = true → 4 * r.vent ≤ r.ventTimer → .ventTimerEnd ∈ due s)
      ∧ (∀ h ∈ s.sa.shed, h.hold = 0 → .shedHoldExpiry ∈ due s)
      ∧ (∀ n ∈ s.sa.deferral, 40 ≤ n → .deferralTimerExpiry ∈ due s)
      ∧ (4 * cfg.refreshPeriod ≤ s.sa.refreshTimer → .refreshTick ∈ due s))

/-- Every command answers a next state in every state. It leaves the queue alone, and none but POWER_ON touches the
clock, the station number or the configured values (R173: they are read at power-on). The serial memory and the record
image change by POWER_ON and by a completed write alone (R174). The queue (log entry 2), the clock (log entry 3), an
operand out of its range, which is taken as it is (log entry 33), and the memory as part of the state, kept by a
failed write (log entry 27), are the model's choices. -/
def Obligations.EveryCommandAnswers : Prop :=
  ∀ (c : Instr) (s : State),
    Answers (exec c s) fun t =>
      t.pending = s.pending
        ∧ ((∀ (p : Pins) (n : Nat) (m : Option SerialMemory), c ≠ .powerOn p n m) →
            t.now = s.now ∧ t.li.own = s.li.own ∧ t.rp.configured = s.rp.configured ∧ t.rp.cfg = s.rp.cfg
              ∧ (c ≠ .recordWriteComplete → t.memory = s.memory ∧ t.rp.image = s.rp.image))

/-- The main values of R25, R46, R81, R99, R119, R134, R152, R164 and R172 as they hold before any pin or memory is
read. What POWER_ON reads is not among them (log entry 1). -/
def Obligations.ResetValues : Prop :=
  let r := State.reset
  r.pending = [] ∧ r.cs.state = .empty ∧ r.cs.list = [] ∧ r.cs.loadIndex = 0 ∧ r.cs.amendments = []
    ∧ r.cs.groups = [] ∧ r.cs.groupCounter = 1 ∧ r.cs.ctx.stage = .idle ∧ r.cs.ctx.soilClass = 1
    ∧ r.cs.ctx.pauses.any = false ∧ r.cs.ctx.owner = none ∧ r.cs.ctx.outcome = .unset
    ∧ r.hc.owner = .free ∧ r.hc.route = .bypass ∧ r.hc.fillState = .idle ∧ r.hc.drive = 0 ∧ r.hc.leakLatch = false
    ∧ r.su.gate = .shut ∧ r.su.regen = none ∧ r.su.regenerating = false ∧ r.du.job = none
    ∧ r.tc.overtemp = false ∧ r.tc.faulted = false ∧ r.sa.view = [] ∧ r.sa.overflow = 0 ∧ r.sa.settle = 2
    ∧ r.sa.shed = none ∧ r.dc.record = none ∧ r.dc.leftAjar = false ∧ r.li.line = .settling ∧ r.li.receive = []
    ∧ r.li.answers = [] ∧ r.li.completions = [] ∧ r.li.conflict = 0 ∧ r.oh.senseTable = [] ∧ r.rp.report = []
    ∧ r.rp.dropped = 0 ∧ r.out = Outputs.off

/-- POWER_ON (R173, with R28, R62, R63, R74, R97, R119, R136): the part takes the straps, a good configuration block
or the standard one, the stored record or that of a bad check, and its switches; bed, want and reservoirs are read
back, the first LOAD NOTICE stands in the supply slot, and the part enters RECOVERY when it is configured and the
cycle-in-progress flag is set, and only then does its drain pump run. Section 11.2: a block is good with its version
and its check, and each value is the block's, at the nearer end of its range. The serial memory is an operand of the
command (log entries 2 and 27); the ranges of chapter 2 and R160 are log entry 10, and an UNCONFIGURED part's values
are the standard ones (log entry 58). -/
def Obligations.PowerOnReads : Prop :=
  (∀ (pins : Pins) (straps : Nat) (chip : Option SerialMemory) (s : State),
    let cfg := (readConfig chip).getD Configuration.standard
    let image := recordImage chip
    let recovers := (readConfig chip).isSome && image.inProgress
    let account := min image.account cfg.bedCapacity
    let bed : BedState := if image.bed = .ready ∨ image.bed = .depleted then
        (if cfg.reserve < account then .ready else .depleted)
      else .salted
    Answers (exec (.powerOn pins straps chip) s) fun t =>
      t.li.own = straps ∧ t.rp.configured = (readConfig chip).isSome ∧ t.rp.cfg = cfg ∧ t.rp.image = image
        ∧ t.su.account = account ∧ t.su.regenCount = image.count ∧ t.su.bed = bed ∧ t.su.want = decide (bed ≠ .ready)
        ∧ t.du.det = ⟨min image.det cfg.detCapacity, image.detKnown, false, image.detPrimed, false, false⟩
        ∧ t.du.rin = ⟨min image.rin cfg.rinCapacity, image.rinKnown, false, image.rinPrimed, false, false⟩
        ∧ t.sa.view = [] ∧ t.sa.announced = cfg.floor ∧ t.sa.settle = 2 ∧ t.sa.shed = none
        ∧ t.li.slot = (if straps = 0 ∨ straps = 63 then none else some ⟨false, cfg.floor⟩)
        ∧ t.li.line = .settling ∧ t.li.receive = [] ∧ t.li.answers = [] ∧ t.li.conflict = 0
        ∧ t.tc.overtemp = false ∧ t.hc.leakLatch = false ∧ t.hc.level = levelOf pins.lvl0 pins.lvl1 pins.lvl2
        ∧ t.dc.door = doorOf pins.latch pins.ajar ∧ t.cs.list = []
        ∧ t.cs.state = (if recovers then .recovery else .empty) ∧ t.out.drain = recovers)
  ∧ (∀ (m : SerialMemory),
    let b := m.config
    let good := 107 ≤ b.length ∧ b.getD 0 0 = 1 ∧ crc8 (b.take 106) = b.getD 106 0
    let one (i : Nat) : Nat := b.getD i 0
    let two (i : Nat) : Nat := b.getD i 0 * 256 + b.getD (i + 1) 0
    let three (i : Nat) : Nat := two i * 256 + b.getD (i + 2) 0
    let near (lo hi v : Nat) : Nat := if v < lo then lo else if hi < v then hi else v
    readConfig none = none ∧ (¬good → readConfig (some m) = none)
      ∧ (good → ∃ c : Configuration, readConfig (some m) = some c
          ∧ c.meterK = near 32 2048 (two 1) ∧ c.fillTimeout = near 60 900 (two 3) ∧ c.afterRun = near 5 30 (one 5)
          ∧ c.drainLimit = near 30 300 (two 6) ∧ c.t1 = near 1 1022 (two 8) ∧ c.t2 = near 1 1022 (two 10)
          ∧ c.t3 = near 1 1022 (two 12) ∧ c.circDraws.length = 8
          ∧ (∀ i : Nat, i < 8 → c.circDraws[i]? = some (near 20 250 (one (14 + i))))
          ∧ c.goff = near 0 500 (two 22) ∧ c.kh = near 64 2048 (two 24) ∧ c.hfb = near 0 900 (two 26)
          ∧ c.hardnessTarget = near 0 300 (two 28) ∧ c.bedCapacity = near 50000 400000 (three 30)
          ∧ c.reserve = near 0 (c.bedCapacity / 2) (three 33) ∧ c.weakPercent = near 25 100 (one 36)
          ∧ c.brineVolume = near 100 1000 (two 37) ∧ c.displaceVolume = near 200 2000 (two 39)
          ∧ c.flushVolume = near 200 3000 (two 41) ∧ c.stepLimit = near 60 1200 (two 43)
          ∧ c.dBase = near 0 1000 (two 45) ∧ c.dHard = near 0 500 (two 47) ∧ c.dMax = near 50 800 (two 51)
          ∧ c.dMin = min (near 0 400 (two 49)) c.dMax ∧ c.detStroke = near 5 100 (one 53)
          ∧ c.rBase = near 0 300 (two 54) ∧ c.closedFactor = near 100 250 (one 56) ∧ c.rinStroke = near 5 100 (one 57)
          ∧ c.detCapacity = near 10000 200000 (three 58) ∧ c.rinCapacity = near 10000 200000 (three 61)
          ∧ c.detLow = min (near 0 50000 (two 64)) c.detCapacity ∧ c.rinLow = min (near 0 50000 (two 66)) c.rinCapacity
          ∧ c.primingStrokes = near 0 20 (one 68) ∧ c.siteLimit = near 500 8000 (two 69)
          ∧ c.floor = min (near 100 1000 (two 71)) c.siteLimit ∧ c.refreshPeriod = near 1 10 (one 73)
          ∧ c.ownRank = near 0 7 (one 74) ∧ c.baseDraw = near 5 40 (one 75) ∧ c.drainDraw = near 10 60 (one 76)
          ∧ c.actuatorDraw = near 5 40 (one 77) ∧ c.detDraw = near 2 20 (one 78) ∧ c.rinDraw = near 2 20 (one 79)
          ∧ c.heater1Draw = near 200 2000 (two 80) ∧ c.heater2Draw = max (near 400 4000 (two 82)) c.heater1Draw
          ∧ c.fanDraw = near 5 60 (one 84) ∧ c.stageBand = near 20 150 (one 85) ∧ c.hysteresis = near 10 40 (one 86)
          ∧ c.elementLimit = near 10 90 (one 87) ∧ c.supplyLimit = near 5 120 (one 88)
          ∧ c.closedOffset = near 0 100 (one 89) ∧ c.openTemp = near 400 700 (two 90)
          ∧ c.travelLimit = near 2 10 (one 92) ∧ c.motionValidity = near 5 120 (one 93)
          ∧ c.motionLevelLimit = near 0 3 (one 94) ∧ c.tiltLimit = near 1 60 (one 95)
          ∧ c.settleTime = near 10 300 (two 96) ∧ c.reopenLimit = near 0 3 (one 98)
          ∧ c.closeAfterVent = decide (one 99 % 2 = 1) ∧ c.noMotionStation = decide (one 99 / 2 % 2 = 1)
          ∧ c.defaultWantOpen = decide (one 99 / 4 % 2 = 1) ∧ c.defaultCondense = near 0 1800 (two 100)
          ∧ c.defaultVent = near 0 3600 (two 102) ∧ c.ownGroup = near 64 127 (one 104)
          ∧ c.groupMask = near 0 63 (one 105)))

/-! ## Invariants -/

/-- R124: an element is energized only with every interlock standing and a heater grant, and E2 never alone. -/
def Obligations.HeaterInterlockKept : Prop :=
  ∀ (s t : State), HeaterSafe s → step s = .next t → HeaterSafe t

/-- R26, R33, R30: the inlet valve is open only for its owner at work, no circulation level above the wanted one is
driven, and no fill of the stage FILL has the inlet open to it at a level that reads HIGH. -/
def Obligations.WaterOutputsKept : Prop :=
  ∀ (s t : State), InletSafe s ∧ CirculationSafe s ∧ FillBelowHigh s → step s = .next t →
    InletSafe t ∧ CirculationSafe t ∧ FillBelowHigh t

/-- R107: at every event the declared draws of the granted loads lie within the allotment (R104 and R105 with it). -/
def Obligations.SupplyWithinAllotment : Prop :=
  ∀ (s t : State), SupplySafe s → step s = .next t → SupplySafe t

/-- R161, R162, R169, R177 and section 1.7: the queues, the sense table, the report and the amendment set keep their
bounds. -/
def Obligations.TablesStayBounded : Prop :=
  ∀ (s t : State), TablesBounded s → step s = .next t → TablesBounded t

/-- R100: the peer view keeps its bound, one entry a station, and never the part's own number. -/
def Obligations.PeerViewStaysSound : Prop :=
  ∀ (s t : State), ViewSound s → step s = .next t → ViewSound t

/-- R3: "The cycle list never holds more than 12 records, a DRY record is always last". -/
def Obligations.CycleListStaysSound : Prop :=
  ∀ (s t : State), ListSound s.cs.list → step s = .next t → ListSound t.cs.list

/-- R60, R83: the resin account and the reservoir accounts stay within their capacities. -/
def Obligations.AccountsStayInRange : Prop :=
  ∀ (s t : State), AccountsSound s → step s = .next t → AccountsSound t

/-- R18, R20: while a cycle runs, the state is PAUSED just when a pause reason is present. -/
def Obligations.PauseStateAgrees : Prop :=
  ∀ (s t : State), PauseAgrees s → step s = .next t → PauseAgrees t

/-- Every invariant holds right after reset. State.reset stands before POWER_ON (log entry 1). -/
def Obligations.ResetMeetsInvariants : Prop :=
  HeaterSafe State.reset ∧ InletSafe State.reset ∧ CirculationSafe State.reset ∧ FillBelowHigh State.reset
    ∧ SupplySafe State.reset ∧ TablesBounded State.reset ∧ ViewSound State.reset ∧ ListSound State.reset.cs.list
    ∧ AccountsSound State.reset ∧ PauseAgrees State.reset ∧ ArmGuarded State.reset
    ∧ (∀ j ∈ State.reset.du.job, j.phase = .stroking → pumpGranted j.res State.reset = true)
    ∧ ¬(jobStroking State.reset = true ∧ serviceStroking State.reset = true)

/-! ## Encodings -/

/-- R165, section 10.1, section 9.3: OH reads back every well-formed order from the frame that carries it, whatever
destination it was sent to. Which orders a LOAD PHASES frame can carry is read as in log entry 21. -/
def Obligations.OrderFramesDecode : Prop :=
  ∀ (c : Instr) (dst : Nat), c.isOrder = true → c.wf = true → (encodeOrder dst c).map decodeFrame = some c

/-- Section 11.2, R173: a record whose figures fit their bytes is read back from the fourteen bytes it is written as.
R154, R155: a well-formed frame is read back from its bytes, five more than its payload; with any other check byte, or
with a length above 24, the bytes are void. -/
def Obligations.BytesReadBack : Prop :=
  (∀ (r : PersistentRecord), r.account < 2 ^ 24 → r.det < 2 ^ 24 → r.rin < 2 ^ 24 → r.count < 2 ^ 16 →
    r.bytes.length = 14 ∧ readRecord r.bytes = some r)
  ∧ (∀ (f : Frame), f.wf = true →
    (frameBytes f).length = f.payload.length + 5 ∧ readFrame (frameBytes f) = some f
      ∧ ∀ check : Nat, check ≠ crc8 (frameBody f) → readFrame (frameBody f ++ [check]) = none)
  ∧ (∀ (b0 b1 b2 len : Nat) (rest : List Nat), 24 < len → readFrame (b0 :: b1 :: b2 :: len :: rest) = none)

/-! ## Orders and answers -/

/-- R165 cases 5 and 6, R169, R173: an order that its rule refuses, or that reaches an UNCONFIGURED part, gets one
CHECK answer with the refusal's sense, and with the second sense while station conflict holds; the sender's sense
table entry is written as the newest; nothing else changes but that the order has left the receive queue. The table
holds one entry a station; when it is full, the oldest makes room. -/
def Obligations.RefusedOrdersOnlyAnswer : Prop :=
  (∀ (c : Instr) (src tag : Nat) (tests : State → Option Sense) (x : Sense) (s s0 : State),
    refusable c = some (src, tag, tests) → Decodes c s s0 →
    (if s.rp.configured then tests s0 else some ⟨.unconfigured, 255⟩) = some x →
    exec c s = .next
      { s0 with
        li := { s0.li with
          answers := s0.li.answers ++
            [⟨src, tag, .check, x, if s.li.conflict > 0 then [5, 2, s.li.conflict] else [], false⟩] }
        oh := { s0.oh with senseTable := senseRoom src s0.oh.senseTable ++ [⟨src, x, tag⟩] } })
  ∧ (∀ (src : Nat) (table : List SenseEntry), table.length ≤ 4 → (table.map (·.station)).Nodup →
    (src ∈ table.map (·.station) → senseRoom src table = table.filter (·.station != src))
      ∧ (src ∉ table.map (·.station) → table.length < 4 → senseRoom src table = table)
      ∧ (src ∉ table.map (·.station) → table.length = 4 → senseRoom src table = table.drop 1)
      ∧ ((senseRoom src table).map (·.station) ++ [src]).Nodup ∧ (senseRoom src table).length ≤ 3)

/-- R167, R10: READY QUERY and STATUS QUERY are answered GOOD and change nothing. The first reports 1 just when a
START from the owner would be taken, and otherwise 0 with the first failing test's key, code and qualifier; the second
gives the seventeen fields of its table. -/
def Obligations.QueriesReport : Prop :=
  (∀ (src tag : Nat) (s s0 : State), Decodes (.readyQuery src tag) s s0 →
    let ready := s.rp.configured && s.cs.state == .loaded && !s.su.regenerating && !s.hc.leakLatch && !s.tc.overtemp
      && s.dc.door == .latched && !tankReserve s
    let fields : List Nat := if ready then [1, 0, 0, 255] else
      0 :: ((if s.rp.configured then startTests none s else some ⟨.unconfigured, 255⟩).getD noSense).bytes
    exec (.readyQuery src tag) s = .next
      { s0 with li := { s0.li with answers := s0.li.answers ++ [⟨src, tag, .good, ⟨.clear, 255⟩, fields, false⟩] } })
  ∧ (∀ (src tag : Nat) (s s0 : State), Decodes (.statusQuery src tag) s s0 →
    let flags := (if s.su.regenerating then 1 else 0) + (if s.du.det.exhausted then 2 else 0)
      + (if s.du.rin.exhausted then 4 else 0) + (if s.hc.leakLatch then 8 else 0) + (if s.tc.overtemp then 16 else 0)
      + (if s.li.conflict > 0 then 32 else 0) + (if s.sa.overflow > 0 then 64 else 0)
    let pauses := (if s.cs.ctx.pauses.userDoor then 1 else 0) + (if s.cs.ctx.pauses.order then 2 else 0)
      + (if s.cs.ctx.pauses.supply then 4 else 0)
    let regen := match s.su.regen with
      | some r => r.seq.num
      | none => 0
    let fields := [s.cs.state.num, s.cs.ctx.phase, s.cs.ctx.stage.num, pauses, s.su.bed.num,
      s.su.account * 100 / s.rp.cfg.bedCapacity, regen,
      if s.du.det.known then s.du.det.account * 100 / s.rp.cfg.detCapacity else 255,
      if s.du.rin.known then s.du.rin.account * 100 / s.rp.cfg.rinCapacity else 255,
      flags, s.dc.door.num, allotment s / 256 % 256, allotment s % 256, s.su.regenCount / 256 % 256,
      s.su.regenCount % 256, s.sa.view.length, (s.sa.view.filter (·.stale)).length]
    exec (.statusQuery src tag) s = .next
      { s0 with li := { s0.li with answers := s0.li.answers ++ [⟨src, tag, .good, ⟨.clear, 255⟩, fields, false⟩] } })

/-- R170: SENSE answers GOOD with the caller's entry, or with NONE when it has none, and removes the entry. -/
def Obligations.SenseReportsAndClears : Prop :=
  ∀ (src tag : Nat) (s s0 : State), Decodes (.sense src tag) s s0 →
    let fields := match s.oh.senseTable.find? (·.station == src) with
      | some e => [e.sense.cause.key, e.sense.cause.code, min e.sense.qual 255, e.tag]
      | none => [0, 0, 255, 0]
    exec (.sense src tag) s = .next
      { s0 with
        li := { s0.li with answers := s0.li.answers ++ [⟨src, tag, .good, ⟨.clear, 255⟩, fields, false⟩] }
        oh := { s0.oh with senseTable := s0.oh.senseTable.filter (·.station != src) } }

/-- R171: READ REPORT on a configured part, with an entry at the index read that has the part read: the answer gives
index, part and bytes, and the position moves to part 1 after part 0 of a phase entry, and else to the next entry.
Past the last entry, and for a part the entry lacks, it is refused with the index or the part as qualifier. -/
def Obligations.ReadReportWalks : Prop :=
  (∀ (src tag start part : Nat) (s s0 : State) (e : ReportEntry), Decodes (.readReport src tag start part) s s0 →
    s.rp.configured = true →
    let i := if start = 255 then s.oh.reportIndex else start
    let p := if start = 255 then s.oh.reportPart else part
    s.rp.report[i]? = some e → e.hasPart p = true →
    let onward : Nat × Nat := match e with
      | .phase .. => if p = 0 then (i, 1) else (i + 1, 0)
      | _ => (i + 1, 0)
    exec (.readReport src tag start part) s = .next
      { s0 with
        li := { s0.li with
          answers := s0.li.answers ++ [⟨src, tag, .good, ⟨.clear, 255⟩, i :: p :: e.bytes p, false⟩] }
        oh := { s0.oh with reportIndex := onward.1, reportPart := onward.2 } })
  ∧ (∀ (start part : Nat) (s : State),
    let i := if start = 255 then s.oh.reportIndex else start
    let p := if start = 255 then s.oh.reportPart else part
    (s.rp.report.length ≤ i → readRefusal start part s = some ⟨.endOfReport, i⟩)
      ∧ (∀ e : ReportEntry, s.rp.report[i]? = some e →
          readRefusal start part s = if e.hasPart p then none else some ⟨.badField, p⟩))

/-- R172, R176: DEVICE RESET on a configured part is answered GOOD, and nothing else happens until that answer ends on
the line. Then the cycle, the queues, the peer view and the work are gone and RECOVERY's drain runs; the resin
account, the overtemperature and leak latches whose causes last, the shed and the configured values stay. -/
def Obligations.DeviceResetWaitsThenRuns : Prop :=
  (∀ (src tag : Nat) (s s0 : State), Decodes (.deviceReset src tag) s s0 → s.rp.configured = true →
    exec (.deviceReset src tag) s = .next
      { s0 with li := { s0.li with answers := s0.li.answers ++ [⟨src, tag, .good, ⟨.clear, 255⟩, [], true⟩] } })
  ∧ (∀ (ack : Bool) (a : Answer) (rest : List Answer) (s : State), s.li.sending = some .answer →
      s.li.answers = a :: rest → a.reset = true → s.rp.configured = true →
      Answers (exec (.ownFrameEnd ack) s) fun t =>
        t.cs.state = .recovery ∧ t.cs.list = [] ∧ t.cs.ctx.owner = none ∧ t.cs.amendments = [] ∧ t.cs.groups = []
          ∧ t.rp.report = [] ∧ t.rp.dropped = 0 ∧ t.oh.reportIndex = 0 ∧ t.oh.reportPart = 0 ∧ t.oh.senseTable = []
          ∧ t.li.receive = [] ∧ t.li.answers = [] ∧ t.li.completions = [] ∧ t.li.sending = none ∧ t.li.conflict = 0
          ∧ t.sa.view = [] ∧ t.sa.announced = s.rp.cfg.floor ∧ t.sa.settle = 2 ∧ t.sa.overflow = 0
          ∧ t.sa.shed = s.sa.shed ∧ t.su.account = s.su.account ∧ t.su.regen = none ∧ t.du.job = none
          ∧ t.su.regenerating = false ∧ t.hc.leakLatch = (s.hc.leakLatch && s.pins.leak)
          ∧ t.tc.overtemp = (s.tc.overtemp && (s.pins.otc || decide (850 ≤ s.tc.tub))) ∧ t.tc.tub = s.tc.tub
          ∧ t.rp.cfg = s.rp.cfg ∧ t.out.he1 = false ∧ t.out.he2 = false ∧ t.out.vin = false ∧ t.out.circ = 0
          ∧ t.out.drain = true)

/-- R165 cases 1 to 4: REJECT, with the tag, for a frame that is no ORDER and for an unknown code; CHECK ILLEGAL "bad
length", qualifier the payload length, for an ORDER too short for its tag (tag 0) or for its parameters. An order too
short for its parameters is answered with its own tag (log entry 42). -/
def Obligations.UnknownOrdersAnswered : Prop :=
  ∀ (f : Frame) (s s0 : State), decodeFrame f = .unknownOrder f → Decodes (.unknownOrder f) s s0 →
    let reject (tag : Nat) : Host.Outcome State Fault Refusal := .next
      { s0 with li := { s0.li with answers := s0.li.answers ++ [⟨f.src, tag, .reject, ⟨.clear, 255⟩, [], false⟩] } }
    let bad (tag : Nat) : Host.Outcome State Fault Refusal := .next
      { s0 with
        li := { s0.li with
          answers := s0.li.answers ++ [⟨f.src, tag, .check, ⟨.badLength, f.payload.length⟩,
            if s.li.conflict > 0 then [5, 2, s.li.conflict] else [], false⟩] }
        oh := { s0.oh with
          senseTable := senseRoom f.src s0.oh.senseTable ++ [⟨f.src, ⟨.badLength, f.payload.length⟩, tag⟩] } }
    exec (.unknownOrder f) s =
      if f.kind ≠ 0x40 then reject (f.payload.headD 0)
      else match f.payload with
        | code :: tag :: _ => if code ∈ orderCodes then bad tag else reject tag
        | _ => bad 0

/-! ## The cycle's orders -/

/-- R1: what is stored of a record whose kind, spray pattern and dose are known, field by field; a record with an
unknown kind, pattern or dose is refused; the value of an amendment is clamped by the same table for the kind of its
target. The answer to the order gives only the list length and the load index. -/
def Obligations.PhaseRecordClamped : Prop :=
  (∀ (r : RawPhase) (k : PhaseKind) (p : SprayPattern) (d : DoseSel),
    let x := storedRecord r k p d
    x.kind = k ∧ x.pattern = p
      ∧ x.fill = (if k = .dry then 0 else if r.fill < 1000 then 1000 else if 6000 < r.fill then 6000 else r.fill)
      ∧ x.temp = (if k = .dry then 0 else if r.temp = 0 then 0 else if r.temp < 300 then 300
          else if 750 < r.temp then 750 else r.temp)
      ∧ x.hold = (if 3600 < r.hold then 3600 else r.hold)
      ∧ x.level = (if r.level = 0 then 1 else if 8 < r.level then 8 else r.level)
      ∧ x.dose = (if k = .dry then .noDose else d)
      ∧ x.soil = (if k = .dry then false else r.soil) ∧ x.regen = (if k = .dry then false else r.regen)
      ∧ x.ext = r.ext
      ∧ x.drying = (if k = .dry then
          match r.drying with
          | none => none
          | some q => some ⟨if 1800 < q.condense then 1800 else q.condense, if 3600 < q.vent then 3600 else q.vent,
              decide (q.doorOpen ≠ 0)⟩
        else none))
  ∧ (∀ (l : List PhaseRecord) (i : Nat) (r : RawPhase) (rest : List RawPhase),
    kindOf r.kind = none ∨ patternOf r.pattern = none ∨ doseOf r.dose = none →
    storeRecords l i (r :: rest) = .error ⟨if kindOf r.kind = none then .badKind else .badField, i⟩)
  ∧ (∀ (k : PhaseKind) (v : Nat),
    clampAmend k .fill v = (if k = .dry then 0 else if v < 1000 then 1000 else if 6000 < v then 6000 else v)
      ∧ clampAmend k .temperature v = (if k = .dry then 0 else if v = 0 then 0 else if v < 300 then 300
          else if 750 < v then 750 else v)
      ∧ clampAmend k .hold v = (if 3600 < v then 3600 else v)
      ∧ clampAmend k .level v = (if v = 0 then 1 else if 8 < v then 8 else v)
      ∧ clampAmend k .dose v = (if k = .dry then 0 else v))
  ∧ (∀ (src tag start : Nat) (recs : List RawPhase) (l : List PhaseRecord) (s s0 : State),
      Decodes (.loadPhases src tag start recs) s s0 → s.rp.configured = true → loadStateTests src start s = none →
      loadResult start recs s = .ok l →
      Answers (exec (.loadPhases src tag start recs) s) fun t =>
        t.li.answers = s0.li.answers ++ [⟨src, tag, .good, ⟨.clear, 255⟩, [l.length, t.cs.loadIndex], false⟩])

/-- R2, R3: a LOAD PHASES whose state, sender and records pass makes the part LOADED. Its records stand, clamped, at
consecutive indexes from the start index, or from the load index; every other record stays; the load index follows the
last record; the answer gives n and p. An order that clears (in EMPTY, or in ENDED with start index 0) starts from an
empty list and report, and makes its sender the owner; any other keeps report and owner. -/
def Obligations.LoadPhasesStores : Prop :=
  ∀ (src tag start : Nat) (recs : List RawPhase) (l : List PhaseRecord) (s s0 : State),
    Decodes (.loadPhases src tag start recs) s s0 → s.rp.configured = true → loadStateTests src start s = none →
    loadResult start recs s = .ok l →
    let clears := s.cs.state = .empty ∨ (s.cs.state = .ended ∧ start = 0)
    let base := if s.cs.state = .empty ∨ (s.cs.state = .ended ∧ start = 0) then [] else s.cs.list
    let i := if start = 255 then
        (if s.cs.state = .empty ∨ (s.cs.state = .ended ∧ start = 0) then 0 else s.cs.loadIndex)
      else start
    Answers (exec (.loadPhases src tag start recs) s) fun t =>
      t.cs.state = .loaded ∧ t.cs.list = l ∧ t.cs.loadIndex = i + recs.length
        ∧ t.li.answers = s0.li.answers ++
            [⟨src, tag, .good, ⟨.clear, 255⟩, [l.length, i + recs.length], false⟩]
        ∧ (∀ j < recs.length, ∃ (r : RawPhase) (k : PhaseKind) (p : SprayPattern) (d : DoseSel), recs[j]? = some r ∧ kindOf r.kind = some k ∧ patternOf r.pattern = some p
            ∧ doseOf r.dose = some d ∧ l[i + j]? = some (storedRecord r k p d))
        ∧ (∀ j : Nat, j < i ∨ i + recs.length ≤ j → l[j]? = base[j]?)
        ∧ (if clears then t.cs.ctx.owner = some src ∧ t.rp.report = [] ∧ t.rp.dropped = 0 ∧ t.oh.reportIndex = 0
              ∧ t.oh.reportPart = 0
            else t.cs.ctx.owner = s.cs.ctx.owner ∧ t.rp.report = s.rp.report ∧ t.oh.reportIndex = s.oh.reportIndex)

/-- R2's and R3's refusals, one for each case: by the state and the sender, and by the first record that fails, whose
index is the qualifier. A LOAD PHASES whose state and sender pass is refused by what its records come to, each met by
the list as the records before it leave it. A DRY record after a DRY record is refused "after DRY" (log entry 36). -/
def Obligations.LoadPhasesRefuses : Prop :=
  (∀ (src start : Nat) (recs : List RawPhase) (s : State),
    let clears : Bool := s.cs.state == .empty || (s.cs.state == .ended && start == 0)
    let base := if clears then [] else s.cs.list
    let i := if start = 255 then (if clears then 0 else s.cs.loadIndex) else start
    (s.cs.state = .recovery → loadRefusal src start recs s = some ⟨.nrRecovery, 255⟩)
      ∧ (s.cs.state = .running ∨ s.cs.state = .paused ∨ s.cs.state = .aborting →
          loadRefusal src start recs s = some ⟨.cycleActive, 255⟩)
      ∧ (s.cs.state = .service → loadRefusal src start recs s = some ⟨.cfService, 255⟩)
      ∧ (s.cs.state = .loaded ∨ (s.cs.state = .ended ∧ start ≠ 0) → s.cs.ctx.owner ≠ some src →
          loadRefusal src start recs s = some ⟨.notOwner, 255⟩)
      ∧ (s.cs.state = .empty ∨ (s.cs.state = .ended ∧ start = 0)
            ∨ ((s.cs.state = .loaded ∨ s.cs.state = .ended) ∧ s.cs.ctx.owner = some src) →
          loadStateTests src start s = none
            ∧ (∀ x : Sense, storeRecords base i recs = .error x → loadRefusal src start recs s = some x)
            ∧ (∀ l : List PhaseRecord, storeRecords base i recs = .ok l → loadRefusal src start recs s = none)))
  ∧ (∀ (l : List PhaseRecord) (i : Nat) (r : RawPhase) (rest : List RawPhase),
      let refuses (c : Cause) := storeRecords l i (r :: rest) = .error ⟨c, i⟩
      let known := (patternOf r.pattern).isSome ∧ (doseOf r.dose).isSome
      (kindOf r.kind = none → refuses .badKind)
        ∧ ((kindOf r.kind).isSome → ¬known → refuses .badField)
        ∧ ((kindOf r.kind).isSome → known → (11 < i ∨ l.length < i) → refuses .badIndex)
        ∧ (kindOf r.kind = some .dry → known → i ≤ 11 → i ≤ l.length → (rest ≠ [] ∨ i + 1 < l.length) →
            refuses .dryNotLast)
        ∧ ((kindOf r.kind).isSome → (kindOf r.kind = some .dry → rest = [] ∧ l.length ≤ i + 1) → known → i ≤ 11 →
            i ≤ l.length → (∃ x ∈ l.take i, x.kind = .dry) → refuses .afterDry))
  ∧ (∀ (l : List PhaseRecord) (i : Nat) (r : RawPhase) (rest : List RawPhase) (k : PhaseKind) (p : SprayPattern)
      (d : DoseSel), kindOf r.kind = some k → patternOf r.pattern = some p → doseOf r.dose = some d → i ≤ 11 →
    i ≤ l.length → (k = .dry → rest = [] ∧ l.length ≤ i + 1) → (∀ x ∈ l.take i, x.kind ≠ .dry) →
    storeRecords l i (r :: rest) =
      storeRecords (if i < l.length then l.set i (storedRecord r k p d) else l ++ [storedRecord r k p d]) (i + 1) rest)

/-- R10: a START that passes its tests is answered GOOD, and the cycle begins with a cleared context that keeps the
owner, an empty amendment set, an empty report, and a write that carries the cycle-in-progress flag set. The part is
RUNNING: in FILL of phase 0, with the inlet asked for, or had, for its volume; past it at once when the level reads
HIGH as the inlet is granted (R30 case 2); or in the DRYING of a DRY first record (R139), the arm not moved (R140). A
sensor already FAULTED is reported then, a fault (R121; after ENTRY of phase 0: log entry 75). The tests are R10's
cases in their order. What is there before the cycle is taken to be at rest: the write gate shut, no drying stage left
over but the CLOSING of a wind-down (log entry 39), for which the fan is not asked (R151). -/
def Obligations.StartBeginsCycle : Prop :=
  (∀ (src tag : Nat) (r : PhaseRecord) (s s0 : State), Decodes (.start src tag) s s0 → s.rp.configured = true →
    s.cs.state = .loaded → s.su.regenerating = false → s.cs.ctx.owner = some src → s.hc.leakLatch = false →
    s.tc.overtemp = false → s.dc.door = .latched → tankReserve s = false → s.cs.list[0]? = some r →
    (∀ x ∈ s.dc.record, x.stage = .ended ∨ x.stage = .closing ∧ x.closingTo = .windDown) → s.su.gate = .shut →
    let begins (t : State) : Prop :=
      t.cs.ctx.phase = 0 ∧ t.cs.ctx.startTag = tag ∧ t.cs.ctx.owner = some src ∧ t.cs.ctx.pauses = PauseSet.empty
        ∧ t.cs.ctx.soilClass = 1 ∧ t.cs.ctx.inserted = 0 ∧ t.cs.amendments = [] ∧ t.cs.groups = []
        ∧ t.cs.groupCounter = 1 ∧ t.cs.list = s.cs.list ∧ t.rp.report = [] ∧ t.rp.dropped = 0 ∧ t.oh.reportIndex = 0
        ∧ t.oh.reportPart = 0
        ∧ (if s.rp.inFlight = none then ∃ w ∈ t.rp.inFlight, w.figures.inProgress = true
            else ∃ p ∈ t.rp.pendingWrite, p.inProgress = some true)
        ∧ t.li.answers = s0.li.answers ++ [⟨src, tag, .good, ⟨.clear, 255⟩, [], false⟩]
    let runs (t : State) : Prop :=
      begins t ∧ t.cs.state = .running ∧ t.cs.ctx.outcome = .unset ∧ t.cs.ctx.firstFault = none
    (s.tc.faulted = true →
      Answers (exec (.start src tag) s) fun t =>
        begins t ∧ t.cs.state = .aborting ∧ t.cs.ctx.outcome = .faulted
          ∧ t.cs.ctx.firstFault = some ⟨.temperatureSensor, 0⟩ ∧ t.out.he1 = false)
    ∧ (s.tc.faulted = false → r.kind ≠ .dry → s.hc.level ≠ .high →
        Answers (exec (.start src tag) s) fun t =>
          runs t ∧ t.cs.ctx.stage = .fill ∧ t.hc.fillTarget = r.fill ∧ (s.hc.service = none → t.out.fan = false)
            ∧ (t.hc.fillState = .waiting ∨ (t.hc.fillState = .bypass ∧ t.hc.owner = .fill)))
    ∧ (s.tc.faulted = false → r.kind ≠ .dry → s.hc.level = .high → s.hc.owner = .free → s.su.regen = none →
        s.hc.drainOn = false →
        Answers (exec (.start src tag) s) fun t =>
          runs t ∧ t.hc.fillState = .closed ∧ t.cs.ctx.fill.target = r.fill ∧ t.cs.ctx.fill.actual = 0
            ∧ t.cs.ctx.stage ≠ .fill ∧ t.out.vin = false)
    ∧ (s.tc.faulted = false → r.kind = .dry →
        let q := r.drying.getD ⟨s.rp.cfg.defaultCondense, s.rp.cfg.defaultVent, s.rp.cfg.defaultWantOpen⟩
        q.condense ≠ 0 →
        Answers (exec (.start src tag) s) fun t =>
          runs t ∧ t.cs.ctx.stage = .drying ∧ t.out.armx = false ∧ t.out.armr = false
            ∧ ∃ x ∈ t.dc.record, x.stage = .condense ∧ x.condense = q.condense ∧ x.vent = q.vent
              ∧ x.wantOpen = q.wantOpen ∧ x.condenseTimer = 0 ∧ x.reopens = 0 ∧ x.outcome = .unset))
  ∧ (∀ (src : Nat) (s : State),
    startTests (some src) s =
      if s.cs.state = .recovery then some ⟨.nrRecovery, 255⟩
      else if s.cs.state = .running ∨ s.cs.state = .paused ∨ s.cs.state = .aborting then some ⟨.cycleActive, 255⟩
      else if s.cs.state = .service then some ⟨.cfService, 255⟩
      else if s.su.regenerating = true then some ⟨.cfRegenerating, 255⟩
      else if s.cs.state = .empty ∨ s.cs.state = .ended then some ⟨.noList, 255⟩
      else if s.cs.ctx.owner ≠ some src then some ⟨.notOwner, 255⟩
      else if s.hc.leakLatch = true then some ⟨.nrLeak, 255⟩
      else if s.tc.overtemp = true then some ⟨.nrOvertemperature, 255⟩
      else if s.dc.door ≠ .latched then some ⟨.doorNotLatched, 255⟩
      else if ∃ e ∈ s.sa.view, e.tank = some true then some ⟨.tankReserve, 255⟩ else none)

/-- R19, R20: a PAUSE is refused outside RUNNING and PAUSED, from another station than the owner, and in the DRY
phase, in that order. Otherwise it is answered GOOD and adds ORDER. The state is PAUSED, the stage, the phase, the
list and the user's own pause reason stay, and heater, the fill's inlet and circulation are off. -/
def Obligations.PauseStopsStage : Prop :=
  (∀ (src tag : Nat) (s s0 : State), Decodes (.pause src tag) s s0 → s.rp.configured = true → inCycle s = true →
    s.cs.ctx.owner = some src → inDryPhase s = false → s.hc.service = none →
    Answers (exec (.pause src tag) s) fun t =>
      t.cs.state = .paused ∧ t.cs.ctx.pauses.order = true ∧ t.cs.ctx.pauses.userDoor = s.cs.ctx.pauses.userDoor
        ∧ t.cs.ctx.stage = s.cs.ctx.stage ∧ t.cs.ctx.phase = s.cs.ctx.phase ∧ t.cs.list = s.cs.list
        ∧ t.cs.holdTimer = (if t.cs.holdStarted = s.cs.holdStarted then s.cs.holdTimer else 0)
        ∧ t.out.he1 = false ∧ t.out.he2 = false ∧ t.out.circ = 0 ∧ (t.hc.owner = .fill → t.out.vin = false)
        ∧ t.li.answers = s0.li.answers ++ [⟨src, tag, .good, ⟨.clear, 255⟩, [], false⟩])
  ∧ (∀ (src : Nat) (s : State),
    pauseTests src s =
      if inCycle s = false then some ⟨.notRunning, 255⟩
      else if s.cs.ctx.owner ≠ some src then some ⟨.notOwner, 255⟩
      else if inDryPhase s = true then some ⟨.cfDrying, 255⟩ else none)

/-- R21 cases 3 and 5: a RESUME from the owner with the door LATCHED is answered GOOD. In PAUSED it removes USER DOOR
and ORDER: with SUPPLY remaining (a tank reserve still active) the state stays PAUSED, and otherwise, when nothing
else waits to move the cycle on (no stage end held, no fill at HIGH) and the stage is not HOLD (which reactions may
end), the cycle runs on in its stage. In RUNNING, under the same conditions, it leaves state, stage and pause set as
they were. Cases 1, 2 and 4 are its tests: RUNNING or PAUSED, then the owner, then in PAUSED the door. -/
def Obligations.ResumeClearsReasons : Prop :=
  (∀ (src tag : Nat) (s s0 : State), Decodes (.resume src tag) s s0 → s.rp.configured = true → inCycle s = true →
    s.cs.ctx.owner = some src → s.dc.door = .latched → PauseAgrees s →
    Answers (exec (.resume src tag) s) fun t =>
      t.li.answers = s0.li.answers ++ [⟨src, tag, .good, ⟨.clear, 255⟩, [], false⟩]
        ∧ (s.cs.state = .paused → s.cs.ctx.pauses.supply = true → tankReserve s = true →
            t.cs.state = .paused ∧ t.cs.ctx.pauses = ⟨false, false, true⟩ ∧ t.cs.ctx.stage = s.cs.ctx.stage)
        ∧ (s.cs.state = .paused → tankReserve s = false → Steady s → s.cs.ctx.stage ≠ .hold →
            t.cs.state = .running ∧ t.cs.ctx.pauses = PauseSet.empty ∧ t.cs.ctx.stage = s.cs.ctx.stage
              ∧ t.cs.ctx.phase = s.cs.ctx.phase)
        ∧ (s.cs.state = .running → tankReserve s = false → Steady s → s.cs.ctx.stage ≠ .hold →
            t.cs.state = .running ∧ t.cs.ctx.pauses = PauseSet.empty ∧ t.cs.ctx.stage = s.cs.ctx.stage))
  ∧ (∀ (src : Nat) (s : State),
    resumeTests src s =
      if s.cs.state ≠ .running ∧ s.cs.state ≠ .paused then some ⟨.notRunning, 255⟩
      else if s.cs.ctx.owner ≠ some src then some ⟨.notOwner, 255⟩
      else if s.cs.state = .paused ∧ s.dc.door ≠ .latched then some ⟨.doorNotLatched, 255⟩ else none)

/-- R22: an ABORT from any station. In RUNNING or PAUSED every pause reason is removed, the outcome is ABORTED, heater
and circulation are off, a regeneration not begun is gone, and the part winds down; unless the drain of this phase had
already ended in a pause (then it has counted as the final drain), it is ABORTING until a drain has ended. In ABORTING
it changes neither state nor outcome; in SERVICE it ends the exercise; in RECOVERY it is refused, and in EMPTY, LOADED
and ENDED too, unless a standalone regeneration runs: then it is answered GOOD and changes nothing. -/
def Obligations.AbortWindsDown : Prop :=
  ∀ (src tag : Nat) (s s0 : State), Decodes (.abort src tag) s s0 → s.rp.configured = true →
    (inCycle s = true → s.hc.service = none →
      Answers (exec (.abort src tag) s) fun t =>
        t.cs.ctx.outcome = .aborted ∧ t.cs.ctx.pauses = PauseSet.empty
          ∧ (t.cs.state = .aborting ∨ t.cs.state = .ended)
          ∧ (s.cs.drainHeld = false → t.cs.state = .aborting)
          ∧ (s.su.regen = none → s.cs.drainHeld = false → t.out.drain = true ∧ t.hc.drainFor = .final)
          ∧ t.out.he1 = false ∧ t.out.he2 = false ∧ t.out.circ = 0
          ∧ (∀ r ∈ s.su.regen, r.seq = .held → t.su.regen = none)
          ∧ t.li.answers = s0.li.answers ++ [⟨src, tag, .good, ⟨.clear, 255⟩, [], false⟩])
    ∧ (s.cs.state = .aborting → s.cs.finalDrain ≠ .ended →
        Answers (exec (.abort src tag) s) fun t => t.cs.state = .aborting ∧ t.cs.ctx.outcome = s.cs.ctx.outcome)
    ∧ (s.cs.state = .recovery → abortTests s = some ⟨.cfRecovery, 255⟩)
    ∧ ((s.cs.state = .empty ∨ s.cs.state = .loaded ∨ s.cs.state = .ended) →
        abortTests s = (if s.su.regenerating then none else some ⟨.noCycle, 255⟩)
          ∧ (s.su.regenerating = true →
              Answers (exec (.abort src tag) s) fun t =>
                t.kept = { s0.kept with answers := s0.li.answers ++ [⟨src, tag, .good, ⟨.clear, 255⟩, [], false⟩] }
                  ∧ t.cs.state = s.cs.state ∧ t.cs.ctx.outcome = s.cs.ctx.outcome))
    ∧ (s.hc.service.isSome → s.cs.state = .service → s.cs.ctx.serviceReturn = .empty ∨ s.cs.ctx.serviceReturn = .ended →
        Answers (exec (.abort src tag) s) fun t => t.cs.state = s.cs.ctx.serviceReturn ∧ t.hc.service = none)

/-- R11, R12: an AMEND that passes the tests is answered GOOD, and its value is clamped for the target's kind. An
entry of the same target and field takes the new value, tag and, ungrouped, the new mark, and keeps its group;
otherwise an entry is added, which joins the OPEN group. The mark is ON TIME before the cut and LATE from it on.
Nothing else changes. The tests refuse it in R11's order; where R11 names no qualifier it is 255, as section 10.5
gives. -/
def Obligations.AmendWritesSet : Prop :=
  (∀ (src tag target fld value : Nat) (f : AmendField) (r : PhaseRecord) (s s0 : State),
    Decodes (.amend src tag target fld value) s s0 → s.rp.configured = true → inCycle s = true →
    s.cs.ctx.owner = some src → amendFieldOf fld = some f → (f = .dose → value ≤ 2) → s.cs.list[target]? = some r →
    s.cs.ctx.phase < target →
    (s.cs.amendments.length < 8 ∨ ∃ e ∈ s.cs.amendments, e.target = target ∧ e.field = f) →
    let v := clampAmend r.kind f value
    let late : Bool := s.cs.ctx.stage == .drain || s.cs.ctx.stage == .regen || s.cs.ctx.stage == .exit
    let mark : Mark := if late then .late else .onTime
    let hit (e : AmendEntry) : Bool := e.target == target && e.field == f
    let opened := (s.cs.groups.find? (·.state == .opened)).map (·.num)
    let set := if s.cs.amendments.any hit then
        s.cs.amendments.map fun e =>
          if hit e then { e with value := v, tag := tag, mark := e.mark.map fun _ => mark } else e
      else s.cs.amendments ++ [⟨target, f, v, if opened.isSome then none else some mark, opened, tag⟩]
    exec (.amend src tag target fld value) s = .next
      { s0 with
        cs := { s0.cs with amendments := set }
        li := { s0.li with answers := s0.li.answers ++ [⟨src, tag, .good, ⟨.clear, 255⟩, [], false⟩] } })
  ∧ (∀ (src target fld value : Nat) (s : State),
    let known := (amendFieldOf fld).isSome ∧ (amendFieldOf fld = some .dose → value ≤ 2)
    amendTests src target fld value s =
      if inCycle s = false then some ⟨.notRunning, 255⟩
      else if s.cs.ctx.owner ≠ some src then some ⟨.notOwner, 255⟩
      else if ¬known then some ⟨.badField, 255⟩
      else if s.cs.list.length ≤ target then some ⟨.badIndex, 255⟩
      else if target ≤ s.cs.ctx.phase then some ⟨.phasePassed, target⟩
      else if 8 ≤ s.cs.amendments.length ∧ ∀ e ∈ s.cs.amendments, e.target = target → amendFieldOf fld ≠ some e.field then
        some ⟨.setFull, 255⟩
      else none)

/-- R13, R12: HOLD AMENDMENTS opens a group with the counter's number when none is OPEN, and the counter steps on,
from 255 to 1, past every number an entry carries; RELEASE AMENDMENTS releases the OPEN group, on time before the cut
and late from it on, or discards it when it has no members. Both are answered GOOD with the group's number, and
nothing else changes; they are refused outside RUNNING and PAUSED and from another station than the owner. R14, R15,
R16: at ENTRY of a phase the ON TIME entries for it and later phases are written, the LATE ones for it are void, and
the rest are re-marked ON TIME; a group RELEASED ON TIME is written whole or void whole, and any other stays. The
completions of several voids of one ENTRY stand in the set's order (log entry 48). -/
def Obligations.AmendmentGroups : Prop :=
  (∀ (src tag : Nat) (s s0 : State), s.rp.configured = true → inCycle s = true → s.cs.ctx.owner = some src →
    s.cs.amendments.length ≤ 8 →
    let after (n : Nat) : Nat := if 255 ≤ n then 1 else n + 1
    let carried (n : Nat) : Prop := ∃ e ∈ s.cs.amendments, e.group = some n
    (Decodes (.holdAmendments src tag) s s0 → openGroup s = none →
      ∃ k : Nat, (∀ j < k, carried (after^[j + 1] s.cs.groupCounter)) ∧ ¬carried (after^[k + 1] s.cs.groupCounter)
        ∧ exec (.holdAmendments src tag) s = .next
          { s0 with
            cs := { s0.cs with
              groups := s.cs.groups ++ [⟨s.cs.groupCounter, .opened, 0⟩]
              groupCounter := after^[k + 1] s.cs.groupCounter }
            li := { s0.li with
              answers := s0.li.answers ++ [⟨src, tag, .good, ⟨.clear, 255⟩, [s.cs.groupCounter], false⟩] } })
      ∧ (∀ g : AmendGroup, Decodes (.holdAmendments src tag) s s0 → openGroup s = some g →
          exec (.holdAmendments src tag) s = .next
            { s0 with li := { s0.li with
                answers := s0.li.answers ++ [⟨src, tag, .good, ⟨.clear, 255⟩, [g.num], false⟩] } })
      ∧ (∀ g : AmendGroup, Decodes (.releaseAmendments src tag) s s0 → openGroup s = some g →
          let late : Bool := s.cs.ctx.stage == .drain || s.cs.ctx.stage == .regen || s.cs.ctx.stage == .exit
          let groups := if s.cs.amendments.any (·.group == some g.num) then
              s.cs.groups.map fun x => if x.num == g.num then
                { x with state := if late then .releasedLate else .releasedOnTime, tag := tag } else x
            else s.cs.groups.filter (·.num != g.num)
          exec (.releaseAmendments src tag) s = .next
            { s0 with
              cs := { s0.cs with groups := groups }
              li := { s0.li with answers := s0.li.answers ++ [⟨src, tag, .good, ⟨.clear, 255⟩, [g.num], false⟩] } })
      ∧ (Decodes (.releaseAmendments src tag) s s0 → openGroup s = none →
          exec (.releaseAmendments src tag) s = .next
            { s0 with li := { s0.li with
                answers := s0.li.answers ++ [⟨src, tag, .good, ⟨.clear, 255⟩, [0], false⟩] } }))
  ∧ (∀ (src : Nat) (s : State),
    groupTests src s =
      if s.cs.state ≠ .running ∧ s.cs.state ≠ .paused then some ⟨.notRunning, 255⟩
      else if s.cs.ctx.owner ≠ some src then some ⟨.notOwner, 255⟩ else none)
  ∧ (∀ (k owner : Nat) (s : State), s.cs.ctx.owner = some owner → listenOnly s = false →
    let set := s.cs.amendments
    let onTime (e : AmendEntry) : AmendEntry := { e with mark := e.mark.map fun _ => .onTime }
    let void (tag target : Nat) : Completion := ⟨owner, tag, .amendmentVoid, 0, ⟨.amendmentVoid, target⟩, []⟩
    let written (es : List AmendEntry) := es.foldl (fun l e => l.modify e.target (amendRecord e.field e.value)) s.cs.list
    let t := takeAmendments k s
    (s.cs.groups = [] →
      let taken (e : AmendEntry) : Bool := e.group == none && e.mark == some .onTime && decide (k ≤ e.target)
      let late (e : AmendEntry) : Bool := e.group == none && e.mark == some .late && e.target == k
      t.cs.list = written (set.filter taken) ∧ t.cs.amendments = (set.filter fun e => !taken e && !late e).map onTime
        ∧ (s.li.completions.length + (set.filter late).length ≤ 4 →
            t.li.completions = s.li.completions ++ (set.filter late).map fun e => void e.tag e.target))
    ∧ (∀ g : AmendGroup, s.cs.groups = [g] → (∀ e ∈ set, e.group = some g.num) →
        (g.state = .releasedOnTime → (∀ e ∈ set, k ≤ e.target) →
          t.cs.list = written set ∧ t.cs.amendments = [] ∧ t.cs.groups = [] ∧ t.li.completions = s.li.completions)
        ∧ (g.state = .releasedOnTime → (∃ e ∈ set, e.target < k) → s.li.completions.length < 4 →
            t.cs.list = s.cs.list ∧ t.cs.amendments = [] ∧ t.cs.groups = []
              ∧ ∃ e ∈ set, e.target < k ∧ (∀ x ∈ set, e.target ≤ x.target)
                ∧ t.li.completions = s.li.completions ++ [void g.tag e.target])
        ∧ (g.state ≠ .releasedOnTime →
            t.cs.list = s.cs.list ∧ t.cs.amendments = set.map onTime ∧ t.li.completions = s.li.completions
              ∧ t.cs.groups = [{ g with state := if g.state = .releasedLate then .releasedOnTime else g.state }])))

/-! ## The line -/

/-- R160, R101, R103, R117, R159: what the end of a good frame of any kind does to LI and SA while the part can
receive: the acknowledge slot, the receive queue, the extra wait (which the frame spends, unless the part was in it
already: log entry 24), the view, view overflow and station conflict. Of what reactions leave, only these and the shed
change. The commands are RECEIVED_LOAD_NOTICE, RECEIVED_CLAIM, SHED, SHED_END, MOTION_NOTICE, TANK_NOTICE,
ORDER_ACCEPTED, RECEIVED_ANSWER_OR_COMPLETION and GOOD_FRAME_NOT_ACCEPTED. A notice of the wrong length still
refreshes or makes its entry (log entry 22). A frame cannot end at the part while it sends or the line is HELD (log
entry 24). -/
def Obligations.ReceivedFramesJudged : Prop :=
  ∀ (c : Instr) (f : Frame) (s : State), frameOf c = some f →
    let own := s.li.own
    let listens := own = 0 ∨ own = 63
    let valid := f.src ≠ 0 ∧ f.src ≠ 63 ∧ f.src ≠ own
    let ours := (¬listens ∧ f.dst = own) ∨ f.dst = 63 ∨ ownGroupMatches s.rp.cfg f.dst = true
    let notice := f.kind = 0x10 ∨ f.kind = 0x11 ∨ f.kind = 0x12 ∨ f.kind = 0x13 ∨ f.kind = 0x20 ∨ f.kind = 0x21
    let reply := f.kind = 0x41 ∨ f.kind = 0x42
    let placed := valid ∧ ¬listens ∧ ours ∧ ¬notice ∧ ¬reply ∧ (f.kind = 0x40 ∨ f.dst = own) ∧ s.li.receive.length < 4
    let acked := valid ∧ ¬listens ∧ ours ∧ (notice ∨ reply ∨ placed)
    let conflicts := f.src = own ∧ ¬listens
    let full := valid ∧ notice ∧ (∀ e ∈ s.sa.view, e.station ≠ f.src) ∧ 24 ≤ s.sa.view.length
    (canReceive s = true →
      Answers (exec c s) fun t =>
        t.kept =
          { s.kept with
            line := .settling
            extraWait := if s.li.line = .busy then s.li.extraWait else none
            ackDriven := decide acked
            receive := if placed then s.li.receive ++ [f] else s.li.receive
            view := if valid then viewAfter s.now f s.sa.view else s.sa.view
            overflow := if full then 8 else s.sa.overflow
            conflict := if conflicts then 8 else s.li.conflict
            shed := t.sa.shed })
      ∧ (canReceive s = false → exec c s = .next s)

/-- R101, R156: a notice of a listed station, or of a new one while the view has room, leaves its station's entry at
age 0, heard and not stale, with the part of its kind written; the entry's other parts and every other entry stay. A
notice whose length does not match writes no part, and makes an entry without one for a new station (log entry 22). A
motion part carries its mark of validity (log entry 44). R18, R20, R70: a tank notice with the reserve flag adds
SUPPLY to a cycle in FILL or REGEN, which is PAUSED with its valves closed, and to no other stage; in every cycle
state it sets the supply hold of a regeneration, which stops its step, the step's volume and time kept. The notice
that ends the last reserve clears both: the cycle runs on when no other reason stands, and then a stopped step goes
on. R69: a HELD regeneration begins with BRINE at that notice, in WRITE WAIT; that it does so with another pause reason
left too is how the model reads R8 with R77 (log entry 35). -/
def Obligations.NoticesWriteTheirParts : Prop :=
  (∀ (src dst : Nat) (s : State), canReceive s = true → src ≠ 0 → src ≠ 63 → src ≠ s.li.own →
    (s.sa.view.any (·.station == src) = true ∨ s.sa.view.length < 24) →
    let old := (s.sa.view.find? (·.station == src)).getD ⟨src, 0, true, false, none, none, none⟩
    let heard : PeerEntry := { old with age := 0, heard := true, stale := false }
    let leaves (c : Instr) (e : PeerEntry) := Answers (exec c s) fun t =>
      t.sa.view.find? (·.station == src) = some e
        ∧ t.sa.view.filter (·.station != src) = s.sa.view.filter (·.station != src)
    (∀ hi lo : Nat, leaves (.receivedLoadNotice src dst [hi, lo]) { heard with load := some ⟨hi * 256 + lo, none⟩ }
        ∧ leaves (.receivedClaim src dst [hi, lo]) { heard with load := some ⟨hi * 256 + lo, none⟩ })
      ∧ (∀ hi lo rank : Nat,
          leaves (.receivedLoadNotice src dst [hi, lo, rank])
              { heard with load := some ⟨hi * 256 + lo, some (if 7 < rank then 7 else rank)⟩ }
            ∧ leaves (.receivedClaim src dst [hi, lo, rank])
              { heard with load := some ⟨hi * 256 + lo, some (if 7 < rank then 7 else rank)⟩ })
      ∧ (∀ hi lo level : Nat, hi < 256 → lo < 256 →
          let tilt : Int := if hi < 128 then (hi * 256 + lo : Nat) else ((hi * 256 + lo : Nat) : Int) - 65536
          leaves (.motionNotice src dst [hi, lo, level])
            { heard with motion := some ⟨if tilt < -360 then -360 else if 360 < tilt then 360 else tilt,
              if 3 < level then 3 else level, s.now, true⟩ })
      ∧ (∀ level flags : Nat,
          leaves (.tankNotice src dst [level, flags]) { heard with tank := some (flags % 2 == 1) })
      ∧ (∀ payload : List Nat, payload.length ≠ 2 → payload.length ≠ 3 →
          leaves (.receivedLoadNotice src dst payload) heard ∧ leaves (.tankNotice src dst payload) heard
            ∧ leaves (.motionNotice src dst payload) heard))
  ∧ (∀ (src dst level flags : Nat) (s : State), canReceive s = true → src ≠ 0 → src ≠ 63 → src ≠ s.li.own →
    (s.sa.view.any (·.station == src) = true ∨ s.sa.view.length < 24) → Steady s →
    let stops := s.cs.ctx.stage = .fill ∨ s.cs.ctx.stage = .regen
    let others := s.cs.ctx.pauses.order = true ∨ s.cs.ctx.pauses.userDoor = true
    (flags % 2 = 1 →
      Answers (exec (.tankNotice src dst [level, flags]) s) fun t =>
        (inCycle s = true → stops →
            t.cs.state = .paused ∧ t.cs.ctx.pauses = { s.cs.ctx.pauses with supply := true }
              ∧ t.cs.ctx.stage = s.cs.ctx.stage
              ∧ ((∀ r ∈ s.su.regen, r.seq = .held → r.phase = .stopped) → t.out.vin = false))
          ∧ (inCycle s = true → ¬stops → t.cs.ctx.pauses = s.cs.ctx.pauses)
          ∧ (∀ r ∈ s.su.regen, ∃ x ∈ t.su.regen, x.hold = true ∧ x.seq = r.seq ∧ x.vol = r.vol ∧ x.time = r.time
              ∧ (r.seq ≠ .held → r.phase ≠ .writeWait → x.phase = .stopped)))
    ∧ (flags % 2 = 0 → (∀ e ∈ s.sa.view, e.station ≠ src → e.tank ≠ some true) →
        Answers (exec (.tankNotice src dst [level, flags]) s) fun t =>
          (inCycle s = true →
              t.cs.ctx.pauses = { s.cs.ctx.pauses with supply := false }
                ∧ (others → t.cs.state = .paused) ∧ (¬others → t.cs.state = .running)
                ∧ (stops → t.cs.ctx.stage = s.cs.ctx.stage))
            ∧ (∀ r ∈ s.su.regen, ∃ x ∈ t.su.regen, x.hold = false
                ∧ (r.seq = .held → x.seq = .brine ∧ x.phase = .writeWait)
                ∧ (inCycle s = false ∨ ¬others → r.seq ≠ .held → r.phase = .stopped →
                    (x.phase = .inletWait ∨ x.phase = .flowing)
                      ∧ (s.hc.owner = .regen → x.phase = .flowing ∧ x.vol = r.vol))
                ∧ (inCycle s = true → others → r.seq ≠ .held → r.phase = .stopped →
                    x.phase = .stopped ∧ x.seq = r.seq ∧ x.vol = r.vol ∧ x.time = r.time))))

/-- R115, R116, R105: a SHED accepted as the part's acts by its threshold: at or below the part's rank it is recorded
whole and caps the allotment at max(cap, F); above it, the shed that held ends. A SHED END ends the shed of its own
source alone, and the hold expiry ends any. The hold expiry acts whenever a shed holds (log entry 5). -/
def Obligations.ShedsCapTheAllotment : Prop :=
  ∀ (src dst : Nat) (s : State), s.li.sending = none → s.li.line ≠ .held → src ≠ 0 → src ≠ 63 → src ≠ s.li.own →
    isOurs s dst = true →
    (∀ threshold hi lo hold : Nat,
      Answers (exec (.shed src dst [threshold, hi, lo, hold]) s) fun t =>
        if threshold ≤ s.rp.cfg.ownRank then
          t.sa.shed = some ⟨src, hi * 256 + lo, 4 * (if hold = 0 then 1 else hold)⟩
            ∧ allotment t = (let capped := min s.sa.announced (max (hi * 256 + lo) s.rp.cfg.floor)
                if s.li.conflict > 0 then min capped s.rp.cfg.floor else capped)
        else t.sa.shed = none)
    ∧ (∀ h ∈ s.sa.shed, h.src = src → Answers (exec (.shedEnd src dst []) s) fun t => t.sa.shed = none)
    ∧ (∀ h ∈ s.sa.shed, h.src ≠ src → Answers (exec (.shedEnd src dst []) s) fun t => t.sa.shed = s.sa.shed)
    ∧ (s.sa.shed.isSome → Answers (exec .shedHoldExpiry s) fun t =>
        t.kept = { s.kept with shed := none }
          ∧ allotment t = if s.li.conflict > 0 then min s.sa.announced s.rp.cfg.floor else s.sa.announced)

/-- R162, R111, R157: at IDLE a part that is not listen-only begins the first that holds a frame of supply slot,
answers and completions; with nothing to send, or listen-only, the line stays IDLE, and any extra wait is spent. A
claim is tested first: one that fails leaves the slot, its loads become DEFERRED and the deferral timer starts; a
withdrawal from the line is held. Where nothing asks SA again, in the reactions either, the slot then holds no claim;
where something does, any claim in it passes the test. R110: a walk that leaves a load short places a CLAIM of figure
B when B is above the allotment and may be claimed, and otherwise withdraws any claim and defers the loads. R112: each
withdrawal starts the deferral timer. R107, R112: with no changed request or allotment and no re-ask event, no claim
is formed and the timer is left alone (log entry 65). R113: with no claim, a figure 50 or more below A is announced,
after the walk too that an unsent lowering notice, in the slot or behind one on the line, has given way to (case 2; a
request that fits in part is log entry 74); R115, R117: after a shed or conflict any figure below A is, but a claim is
placed or kept in its stead (log entry 14). A walk here is a round of SA's reactions (log entry 34), and the marks
reask, allotted, requests and mustAnnounce that ask for its parts are the model's (log entry 45). The walk serves
against the allotment, or against a lowering figure on the line. The event is the moment at which IDLE is reached and
any extra wait is over (log entry 24). -/
def Obligations.SendAttemptChooses : Prop :=
  (∀ (s : State), s.li.line = .settling ∨ s.li.line = .idle → s.li.sending = none →
    let claimFails := s.li.slot.any fun f => f.claim && !(decide (f.figure ≤ claimCeiling s) && mayClaim s)
    let place : Option Place :=
      if listenOnly s then none
      else if s.li.slot.isSome && !claimFails then some .supply
      else if s.li.answers ≠ [] then some .answer
      else if s.li.completions ≠ [] then some .completion
      else none
    let begun := beginFrame (testClaim s)
    let asks (u : State) : Bool := requestsOf (reactWork (reactCycle u)) != s.sa.requests
    Answers (exec .sendAttempt s) fun t =>
      t.kept = { s.kept with sending := place, line := if place.isSome then .busy else .idle, extraWait := none }
        ∧ (claimFails = true → asks begun = false → asks (settlePass begun) = false →
            allotment s = s.sa.allotted → s.sa.reask = false → ∀ f ∈ t.li.slot, f.claim = false)
        ∧ (claimFails = true → SupplyGrounded s → ∀ f ∈ t.li.slot, f.claim = true →
            f.figure ≤ claimCeiling t ∧ mayClaim t = true))
  ∧ (∀ (f : SupplyFrame) (s : State), s.li.slot = some f → f.claim = true → s.li.follower = .nothing →
    let passes := f.figure ≤ claimCeiling s ∧ mayClaim s = true
    let deferred := { s.sa with deferral := some 0, statuses := s.sa.statuses.lostClaim }
    (passes → testClaim s = s)
      ∧ (¬passes → s.li.sending ≠ some .supply →
          testClaim s = { s with li := { s.li with slot := none }, sa := deferred })
      ∧ (¬passes → s.li.sending = some .supply →
          testClaim s = { s with li := { s.li with follower := .withdrawal }, sa := deferred }))
  ∧ (∀ (s : State),
    let cfg := s.rp.cfg
    let request := requestsOf s
    let t := supplyRound s
    t.sa.requests = request
      ∧ t.sa.grants = walk cfg (if s.li.sending = some .supply then servingLimit s else allotment s) request
      ∧ (s.li.sending ≠ some .supply → listenOnly s = false → loweringFigure s = none → walkAsked s = true →
          let grants := walk cfg (allotment s) request
          let b := max cfg.floor (drawOf cfg (walk cfg (claimCeiling s) request))
          let p := max cfg.floor (drawOf cfg grants)
          let claims : Bool := grants != request && decide (allotment s < b) && mayClaim s
          let announces : Bool :=
            decide (p + 50 ≤ s.sa.announced) || (s.sa.mustAnnounce && decide (p < s.sa.announced))
          t.li.slot =
              (if claims then some ⟨true, b⟩
              else if announces then some ⟨false, p⟩
              else s.li.slot.filter fun f => !f.claim)
            ∧ (claims = false →
                t.sa.statuses.anyDeferred = (grants != request)
                  ∧ t.sa.deferral = if grants ≠ request ∨ s.li.slot.any (·.claim) = true then some 0 else s.sa.deferral))
      ∧ (∀ f ∈ s.li.slot, f.claim = false → f.figure < s.sa.announced → s.li.sending ≠ some .supply →
          listenOnly s = false → walkAsked s = false →
          walk cfg (min f.figure (allotment s)) request ≠ walk cfg (allotment s) request →
          let p := max cfg.floor (drawOf cfg (walk cfg (allotment s) request))
          t.li.slot =
            if p + 50 ≤ s.sa.announced ∨ s.sa.mustAnnounce = true ∧ p < s.sa.announced then some ⟨false, p⟩ else none)
      ∧ (∀ f ∈ s.li.slot, ∀ g : SupplyFrame, s.li.follower = .frame g → s.li.sending = some .supply →
          f.claim = false → f.figure < s.sa.announced → g.claim = false → g.figure < s.sa.announced →
          listenOnly s = false →
          let limit := min f.figure (allotment s)
          walk cfg (min g.figure limit) request ≠ walk cfg limit request →
          let p := max cfg.floor (drawOf cfg (walk cfg limit request))
          t.li.slot = some f
            ∧ t.li.follower =
              if p + 50 ≤ s.sa.announced ∨ s.sa.mustAnnounce = true ∧ p < s.sa.announced then .frame ⟨false, p⟩
              else .nothing)
      ∧ (request = s.sa.requests → allotment s = s.sa.allotted → s.sa.reask = false →
          t.sa.deferral = s.sa.deferral ∧ t.sa.statuses = s.sa.statuses
            ∧ (s.li.sending ≠ some .supply → ∀ f ∈ t.li.slot, f.claim = true → s.li.slot = some f)))

/-- R157, R159, R163, R105: the three outcomes of a frame of the part. Lost arbitration and a collision end its
sending and leave the answers where they were; a collision also sets station conflict to 8 and takes an extra wait of
0..31 bit times, whichever; an end on the line, acknowledged or not, removes an answer or a completion (in a cycle too, where what follows in the same event may queue another), and A takes
the figure of a supply frame. R162: a supply frame that leaves the line without its end stays in the slot, or gives it
to the follower, or leaves it empty when its withdrawal was held; a collision leaves no claim in it (R117); at its end
the follower has the slot. Then the claim is tested (R111) and the reactions follow (log entry 34). The extra wait is
a free value (log entry 7). That the end of a supply frame asks for a new walk when a claim walk was put off or the
frame was a claim, and the marks `reask` and `claimOwed` that say so, are the model's choice (log entries 43 and 45).
-/
def Obligations.OwnFrameOutcomes : Prop :=
  ∀ (p : Place) (s : State), s.li.sending = some p →
    (Answers (exec .arbitrationLost s) fun t => t.kept = { s.kept with sending := none, line := .busy })
    ∧ (Answers (exec .collision s) fun t =>
        t.kept =
            { s.kept with
              sending := none
              line := .busy
              conflict := 8
              extraWait := some (Config.freeExtraWait s.freeCount).toNat
              freeCount := s.freeCount + 1 }
          ∧ ∃ n : Nat, t.li.extraWait = some n ∧ n ≤ 31)
    ∧ (∀ ack : Bool,
        (∀ f : SupplyFrame, p = .supply → s.li.slot = some f →
          Answers (exec (.ownFrameEnd ack) s) fun t =>
            t.kept = { s.kept with sending := none, line := .settling, announced := f.figure })
        ∧ (∀ (a : Answer) (rest : List Answer), p = .answer → s.li.answers = a :: rest → a.reset = false →
            Answers (exec (.ownFrameEnd ack) s) fun t =>
              t.kept = { s.kept with sending := none, line := .settling, answers := rest })
        ∧ (∀ (x : Completion) (rest : List Completion), p = .completion → s.li.completions = x :: rest →
            exec (.ownFrameEnd ack) s = .next (finish
                { s with li := { s.li with completions := rest, sending := none, line := .settling } })
              ∧ (cycleOn s = false ∨ (Steady s ∧ (s.cs.state = .aborting → s.cs.finalDrain ≠ .ended)) →
                  Answers (exec (.ownFrameEnd ack) s) fun t =>
                    t.kept = { s.kept with sending := none, line := .settling } ∧ t.li.completions = rest)))
    ∧ (∀ f : SupplyFrame, p = .supply → s.li.slot = some f →
        let returned : Option SupplyFrame := match s.li.follower with
          | .nothing => some f
          | .frame g => some g
          | .withdrawal => none
        let follows : Option SupplyFrame := match s.li.follower with
          | .frame g => some g
          | .nothing | .withdrawal => none
        exec .arbitrationLost s = .next (finish (testClaim
            { s with
              li := { s.li with slot := returned, follower := .nothing, sending := none, line := .busy }
              sa := { s.sa with reask := s.sa.reask || s.sa.claimOwed, claimOwed := false } }))
          ∧ (∃ u : State, exec .collision s = .next (finish u) ∧ u.li.follower = .nothing
              ∧ u.li.slot = returned.filter fun g => !g.claim)
          ∧ ∀ ack : Bool, exec (.ownFrameEnd ack) s = .next (finish
              { s with
                li := { s.li with slot := follows, follower := .nothing, sending := none, line := .settling }
                sa := { s.sa with
                  announced := f.figure
                  reask := s.sa.reask || s.sa.claimOwed || f.claim
                  claimOwed := false } }))

/-- R158, R118: a line reset condition, taken once in a dominant hold, empties the queues, the slot and the view,
clears conflict and overflow, sets A to F and the settle count to 2, and places a LOAD NOTICE of F; with a DEVICE
RESET waiting on its answer, RECOVERY begins. The shed and the cycle's own figures stay. R109: a load that waited on the
part's claim, or for the outcome of its lowering notice (the mark `claimOwed`, log entry 45), is WAITING no more. R152:
the settle timer is 0 then. R153, R155: a HELD line that is released is SETTLING; a void frame ends BUSY, is not acknowledged, spends the
extra wait as a good one does, and does nothing else. Bit times are outside (log entry 24). -/
def Obligations.LineConditionsTaken : Prop :=
  (∀ (s : State), s.li.line ≠ .held →
    (s.li.answers.any (·.reset) = false →
      Answers (exec .lineResetCondition s) fun t =>
        t.kept =
            { s.kept with
              line := .held
              receive := []
              answers := []
              sending := none
              extraWait := none
              conflict := 0
              ackDriven := false
              view := []
              overflow := 0
              settle := 2
              refreshTimer := 0
              announced := s.rp.cfg.floor }
          ∧ t.li.slot = (if listenOnly s then none else some ⟨false, s.rp.cfg.floor⟩) ∧ t.li.follower = .nothing ∧ t.dc.settle = 0
          ∧ (cycleOn s = false → t.li.completions = [])
          ∧ ((claimFigure s).isSome ∨ s.sa.claimOwed = true →
              let x := t.sa.statuses
              ∀ y ∈ [x.circ, x.actuator, x.det, x.rin, x.heater, x.fan], y ≠ .waiting ∧ y ≠ .waitingRest))
    ∧ (s.li.answers.any (·.reset) = true →
        Answers (exec .lineResetCondition s) fun t =>
          t.li.line = .held ∧ t.li.answers = [] ∧ t.cs.state = .recovery ∧ t.cs.list = [] ∧ t.sa.view = []
            ∧ t.dc.settle = 0))
  ∧ (∀ (s : State),
    (s.li.line = .held → exec .lineReleased s = .next { s with li := { s.li with line := .settling } })
    ∧ (s.li.line ≠ .held → exec .lineReleased s = .next s)
    ∧ (s.li.line ≠ .held → s.li.sending = none →
        exec .frameVoid s = .next
          { s with li := { s.li with
              line := .settling
              extraWait := if s.li.line = .busy then s.li.extraWait else none
              ackDriven := false } })
    ∧ (s.li.line = .held → exec .lineResetCondition s = .next s))

/-- R102, R103, R106, R159: at a refresh tick an entry heard keeps its age and loses its mark, and an entry not heard
grows older, stale from age 3 and gone at age 8; the overflow, settle and conflict counts fall by one while above 0.
R114: then a LOAD NOTICE with the announce figure is placed, in the slot or behind a frame on the line, unless a claim
is queued or on the line or the part is listen-only. The ends that a tick brings about are events of their own too.
R112: the deferral timer that expires starts again at 0 when a load is still DEFERRED after the new walks. The tick
and the events of their own are the model's reading of the table (log entry 23), and the reactions are made before the
notice and after it (log entry 34); an event of its own acts whenever what it ends is there (log entry 5). -/
def Obligations.SupplyCountsFall : Prop :=
  (∀ (s : State),
    let aged (e : PeerEntry) : PeerEntry :=
      if e.heard then { e with heard := false }
      else { e with age := e.age + 1, stale := e.stale || decide (3 ≤ e.age + 1) }
    let ticked : Kept :=
      { s.kept with
        view := (s.sa.view.map aged).filter fun e => decide (e.age < 8)
        overflow := s.sa.overflow - 1
        settle := s.sa.settle - 1
        conflict := s.li.conflict - 1
        refreshTimer := 0 }
    (Answers (exec .refreshTick s) fun t => t.kept = ticked)
      ∧ ∃ u : State, exec .refreshTick s = .next (finish (periodicNotice u)) ∧ u.kept = ticked)
  ∧ (∀ (s : State),
    let notice : SupplyFrame := ⟨false, max s.rp.cfg.floor (drawOf s.rp.cfg s.sa.grants)⟩
    let claims := (s.li.slot.any (·.claim)) = true
      ∨ (s.li.sending = some .supply ∧ ∃ g : SupplyFrame, s.li.follower = .frame g ∧ g.claim = true)
    (claims ∨ listenOnly s = true → periodicNotice s = s)
      ∧ (¬claims → listenOnly s = false → s.li.sending ≠ some .supply →
          periodicNotice s = { s with li := { s.li with slot := some notice } })
      ∧ (¬claims → listenOnly s = false → s.li.sending = some .supply →
          periodicNotice s = { s with li := { s.li with follower := .frame notice } }))
  ∧ (∀ (s : State),
    (∀ station : Nat,
      Answers (exec (.entryAgedOut station) s) fun t =>
        t.kept = { s.kept with view := s.sa.view.filter (·.station != station) })
    ∧ (Answers (exec .viewOverflowEnd s) fun t => t.kept = { s.kept with overflow := 0 })
    ∧ (Answers (exec .settleEnd s) fun t => t.kept = { s.kept with settle := 0 })
    ∧ (Answers (exec .stationConflictEnd s) fun t =>
        t.kept = { s.kept with conflict := 0 }
          ∧ allotment t = match s.sa.shed with
            | some h => min s.sa.announced (max h.cap s.rp.cfg.floor)
            | none => s.sa.announced)
    ∧ (s.sa.deferral.isSome →
        Answers (exec .deferralTimerExpiry s) fun t =>
          t.kept = s.kept ∧ (t.sa.deferral = none ∨ t.sa.deferral = some 0)
            ∧ (t.sa.statuses.anyDeferred = true → t.sa.deferral = some 0))
    ∧ (s.sa.deferral = none → exec .deferralTimerExpiry s = .next s))

/-! ## Water, softening and regeneration -/

/-- R27, R29, R31, R48, R55, R57, R71: a flow pulse is discarded while the inlet valve is closed. Counted for a fill
short of its target, it restarts the no-flow timer; at 250 mL, once, it begins the hardness sample with its own
reading; on SOFT it sets the resin account to A0 less the whole soft volume's charge, rounded up, or 0; off SOFT it
charges nothing. R29 cases 3 and 4, R52: on BYPASS, with the gate open, the pulse that brings the bypass volume to Vb
switches the route to SOFT, a Vb passed already being raised to the bypass volume, and Vs with it V less that (a
switch whose first pulse would pass Vs is not made: log entry 11); SOFT is left at the pulse after which one more
would carry the soft volume past Vs, and not before; a target reached with nothing softened leaves Vb at V and Vs at
0. Counted for a regeneration step short of its volume, it adds to that volume and charges nothing. R30, R58, R59: the
pulse that reaches a fill's target tops up below NORMAL and ends the fill at NORMAL: the fill record has the target,
the volume delivered, its bypass and soft parts, the hard water through the bed, the hardness and the effective
hardness; inlet, plan and gate are given up, and RP has the water. R5, R127, R131: HEAT begins when the target is
above the water's temperature and the heater is not disabled, and else HOLD, which may end at once. R86 to R88, R91:
the phase's dose makes a job of D dose units and N strokes, or none at N 0. R71, R73: the pulse that ends BRINE or
DISPLACE begins the next step. R74, R62, R68, R76: the one that ends FLUSH credits the bed, counts a FULL
regeneration, clears the want and reports the end to whoever placed it. -/
def Obligations.FlowPulseCounts : Prop :=
  (∀ (cond : Nat) (s : State),
    let k := s.rp.cfg.meterK
    let now := (s.hc.pulses + 1) * k / 64
    let soft := s.hc.softDone + (now - s.hc.softFrom * k / 64)
    (fillValveOpen s = false → flowingStep s = none → exec (.flowPulse cond) s = .next s)
    ∧ (fillValveOpen s = true → now < s.hc.fillTarget → s.hc.level ≠ .high →
        Answers (exec (.flowPulse cond) s) fun t =>
          t.hc.pulses = s.hc.pulses + 1 ∧ t.hc.owner = .fill ∧ (Steady s → t.hc.noFlowTimer = 0)
            ∧ t.su.sample = (if s.hc.planAsked = false ∧ 250 ≤ now then some ⟨[cond], 0⟩ else s.su.sample)
            ∧ t.su.hin = s.su.hin ∧ t.pins.cond = cond
            ∧ (s.hc.fillState ≠ .soft → t.su.account = s.su.account)
            ∧ (∀ p ∈ s.su.plan, s.hc.fillState = .soft →
                t.su.account = p.a0 - (soft * s.su.hin.getD 0 + 99) / 100))
    ∧ (∀ r ∈ s.su.regen, (flowingStep s).isSome → now < stepVolume s.rp.cfg r.seq → Steady s →
        Answers (exec (.flowPulse cond) s) fun t =>
          t.hc.pulses = s.hc.pulses + 1 ∧ t.su.account = s.su.account
            ∧ ∃ x ∈ t.su.regen, x.vol = now ∧ x.seq = r.seq ∧ x.steps = r.steps ∧ x.credit = r.credit))
  ∧ (∀ (cond : Nat) (s : State), fillValveOpen s = true → Steady s →
    let k := s.rp.cfg.meterK
    let now := (s.hc.pulses + 1) * k / 64
    (s.hc.fillState ≠ .topup → s.hc.fillTarget ≤ now → s.hc.level = .empty ∨ s.hc.level = .low →
      Answers (exec (.flowPulse cond) s) fun t =>
        t.hc.fillState = .topup ∧ t.hc.route = .bypass ∧ t.hc.owner = .fill ∧ t.hc.pulses = s.hc.pulses + 1
          ∧ (∀ p ∈ s.su.plan, s.hc.fillState = .bypass → s.hc.softDone = 0 →
              t.su.plan = some { p with vb := s.hc.fillTarget, vs := 0 }))
    ∧ (s.hc.fillState = .topup → s.hc.level ≠ .high →
        Answers (exec (.flowPulse cond) s) fun t =>
          t.hc.fillState = .topup ∧ t.hc.owner = .fill ∧ t.hc.pulses = s.hc.pulses + 1 ∧ t.su.account = s.su.account))
  ∧ (∀ (cond : Nat) (p : BlendPlan) (s : State), fillValveOpen s = true → Steady s → tankReserve s = false →
    s.su.plan = some p →
    let volumeOf (n : Nat) : Nat := n * s.rp.cfg.meterK / 64
    let now := volumeOf (s.hc.pulses + 1)
    now < s.hc.fillTarget →
    let bypass := now - s.hc.softDone
    let vs := if p.vb < bypass then s.hc.fillTarget - bypass else p.vs
    (s.hc.fillState = .bypass →
      Answers (exec (.flowPulse cond) s) fun t =>
        if s.su.gate = .opened ∧ s.hc.switched = false ∧ 0 < p.vs ∧ p.vb ≤ bypass then
          t.su.plan = some { p with vb := bypass, vs := vs } ∧ t.hc.softFrom =
              (if volumeOf (s.hc.pulses + 2) - now ≤ vs then s.hc.pulses + 1 else s.hc.softFrom)
            ∧ (if volumeOf (s.hc.pulses + 2) - now ≤ vs then
                t.hc.fillState = .soft ∧ t.hc.route = .soft ∧ (s.rp.configured = true → t.out.vrouteSoft = true)
              else t.hc.fillState = .bypass ∧ t.hc.route = s.hc.route)
        else t.hc.fillState = .bypass ∧ t.hc.route = s.hc.route ∧ t.su.plan = some p)
    ∧ (s.hc.fillState = .soft → s.hc.switched = true →
        let soft := s.hc.softDone + (now - volumeOf s.hc.softFrom)
        let next := s.hc.softDone + volumeOf (s.hc.pulses + 2) - volumeOf s.hc.softFrom
        Answers (exec (.flowPulse cond) s) fun t =>
          t.su.plan = some p
            ∧ if p.vs < next then t.hc.fillState = .bypass ∧ t.hc.route = .bypass ∧ t.hc.softDone = soft
              else t.hc.fillState = .soft ∧ t.hc.route = s.hc.route ∧ t.hc.softDone = s.hc.softDone))
  ∧ (∀ (cond : Nat) (r : PhaseRecord) (s : State), fillValveOpen s = true → Steady s → currentRecord s = some r →
    s.hc.fillState ≠ .topup → s.hc.level = .normal → s.hc.planAsked = true → s.su.sample = none →
    let cfg := s.rp.cfg
    let now := (s.hc.pulses + 1) * cfg.meterK / 64
    s.hc.fillTarget ≤ now →
    let soft := s.hc.softDone + (if s.hc.fillState = .soft then now - s.hc.softFrom * cfg.meterK / 64 else 0)
    let bypass := now - soft
    let hin := if now = 0 then 0 else s.su.hin.getD cfg.hfb
    let hard := match s.su.plan with
      | some p => if soft = 0 then 0 else soft - p.a0 * 100 / hin
      | none => 0
    let heff := if now = 0 then 0 else (2 * ((bypass + hard) * hin) + now) / (2 * now)
    let filled : FillRecord := ⟨s.hc.fillTarget, now, bypass, soft, hard, hin, heff⟩
    let heats : Bool := decide (0 < s.tc.target) && !s.tc.disabled && decide (s.tc.tub < s.tc.target)
    let eighths := match s.cs.ctx.soilClass with
      | 0 => 6
      | 1 => 8
      | 2 => 10
      | _ => 12
    let detergent := min cfg.dMax (max cfg.dMin
      ((now * (cfg.dBase + cfg.dHard * heff / 100) * eighths + 79999) / 80000))
    let rinseAid := (now * cfg.rBase * (if s.cs.ctx.provisional = .closedDry then cfg.closedFactor else 100) + 999999)
      / 1000000
    let strokes (dose stroke : Nat) : Nat := (dose * 10 + stroke - 1) / stroke
    let makes (res : Reservoir) (dose n : Nat) (t : State) : Prop :=
      (n = 0 → t.du.job = none)
        ∧ (n ≠ 0 → cutLow s res = false →
            ∃ j ∈ t.du.job, j.res = res ∧ j.dose = dose ∧ j.wanted = n ∧ j.confirmed = 0 ∧ j.unconfirmed = 0
              ∧ j.priming = (if (tankOf s res).primed then 0 else cfg.primingStrokes)
              ∧ (j.phase = .waiting ∨ j.phase = .stroking))
    Answers (exec (.flowPulse cond) s) fun t =>
      t.cs.ctx.fill = filled ∧ t.rp.draft.fill = filled ∧ t.rp.water = s.rp.water + now ∧ t.hc.fillState = .closed
        ∧ t.hc.owner ≠ .fill ∧ (s.su.regen = none → t.out.vin = false) ∧ t.su.plan = none ∧ t.su.gate = .shut
        ∧ (if heats then t.cs.ctx.stage = .heat else t.cs.ctx.stage = .hold ∨ t.cs.ctx.stage = .drain)
        ∧ (t.cs.ctx.stage ≠ .drain → t.hc.pattern = some r.pattern)
        ∧ (r.dose = .noDose → s.du.job = none → t.du.job = none)
        ∧ (r.dose = .detergent → makes .detergent detergent (strokes detergent cfg.detStroke) t)
        ∧ (r.dose = .rinseAid → makes .rinseAid rinseAid (strokes rinseAid cfg.rinStroke) t))
  ∧ (∀ (cond : Nat) (r : RegenRecord) (s : State), s.su.regen = some r → flowingStep s = some r.seq → Steady s →
    let cfg := s.rp.cfg
    let now := (s.hc.pulses + 1) * cfg.meterK / 64
    stepVolume cfg r.seq ≤ now →
    let water := r.water + now
    let next (step : SeqState) : Prop :=
      Answers (exec (.flowPulse cond) s) fun t =>
        t.su.account = s.su.account ∧ t.su.bed = .rinsing
          ∧ ∃ x ∈ t.su.regen, x.seq = step ∧ x.steps = r.steps + 1 ∧ x.water = water ∧ x.vol = 0 ∧ x.time = 0
            ∧ x.credit = r.credit ∧ x.placement = r.placement
            ∧ (x.phase = .inletWait ∨ x.phase = .flowing ∨ x.phase = .stopped)
    (r.seq = .brine → next .displace)
      ∧ (r.seq = .displace → next .flush)
      ∧ (r.seq = .flush →
          Answers (exec (.flowPulse cond) s) fun t =>
            t.su.account = r.credit ∧ t.su.bed = (if r.credit ≤ cfg.reserve then .depleted else .ready)
              ∧ t.su.want = false ∧ t.su.regen = none ∧ t.su.rearm = decide (r.credit ≤ cfg.reserve)
              ∧ t.su.regenCount = (if r.full then min 65535 (s.su.regenCount + 1) else s.su.regenCount)
              ∧ (s.rp.report.length < 15 →
                  t.rp.report[s.rp.report.length]? =
                    some (.regeneration r.placement (r.steps + 1) water r.credit r.weak))
              ∧ (r.placement = .inCycle → t.cs.ctx.regenDone = true)
              ∧ (r.placement = .postCycle → inCycle s = true → t.cs.state = .ended)
              ∧ (r.placement = .recovery → s.cs.state = .recovery → t.cs.state = .empty)
              ∧ (r.placement = .standalone → cycleOn s = false → t.su.regenerating = false
                  ∧ (listenOnly s = false → ∃ x ∈ t.li.completions.getLast?, x.dst = r.originator ∧ x.tag = r.tag
                      ∧ x.kind = .regenerationEnd ∧ x.sense = (if r.weak then ⟨.saltLow, 255⟩ else ⟨.clear, 255⟩)
                      ∧ x.data = [r.steps + 1, water / 256 % 256, water % 256, r.credit / 65536 % 256,
                          r.credit / 256 % 256, r.credit % 256, if r.weak then 1 else 0]))))

/-- R31, R30, R23: a fill that reaches its timeout, or 30 s without flow, is closed with the volumes delivered, and
the cycle winds down as FAULTED; the first fault of the cycle is kept. Without an open fill, neither does anything.
The event acts whenever what it times is under way (log entry 5). -/
def Obligations.FillTimersFault : Prop :=
  ∀ (c : Instr) (cause : Cause) (s : State), (c = .fillTimeout ∧ cause = .fillSlow) ∨ (c = .noFlowTimeout ∧ cause = .noFlow) →
    (fillValveOpen s = false → exec c s = .next s)
    ∧ (fillValveOpen s = true → s.cs.drainHeld = false →
        Answers (exec c s) fun t =>
          t.cs.state = .aborting ∧ t.cs.ctx.outcome = .faulted
            ∧ t.cs.ctx.firstFault = s.cs.ctx.firstFault.or (some ⟨cause, s.cs.ctx.phase⟩)
            ∧ t.hc.fillState = .closed ∧ t.hc.owner ≠ .fill ∧ t.su.plan = none ∧ t.su.gate = .shut
            ∧ t.cs.ctx.fill.target = s.hc.fillTarget ∧ t.cs.ctx.fill.actual = s.hc.pulses * s.rp.cfg.meterK / 64
            ∧ t.out.he1 = false)

/-- R48, R49, R51, R53: each reading of the sample is kept in order. At its end Hin is formed from the mean of its
readings, or is the fallback at a cell fault, and the plan is answered: all bypass for a bed not usable, for water
soft enough and when the blend leaves no soft volume; otherwise Vb and Vs, with the gate REQUESTED and the predicted
charge kept. The event acts whenever what it times is under way (log entry 5). -/
def Obligations.SamplePlansTheFill : Prop :=
  (∀ (cond : Nat) (p : Sample) (s : State), fillValveOpen s = true → s.su.sample = some p → p.readings.length < 8 →
    Answers (exec (.sampleReading cond) s) fun t =>
      t.kept =
        { s.kept with
          fill := s.kept.fill.map fun f => { f with sample := some { p with readings := p.readings ++ [cond] } }
          pins := { s.pins with cond := cond } })
  ∧ (∀ (p : Sample) (s : State), fillValveOpen s = true → s.su.sample = some p → s.su.gate = .shut →
      s.hc.level ≠ .high →
    let g := p.readings.sum / p.readings.length
    let fault := g = 0 ∨ 5000 ≤ g
    let hin := if g = 0 ∨ 5000 ≤ g then s.rp.cfg.hfb else min 900 ((g - s.rp.cfg.goff) * s.rp.cfg.kh / 1024)
    let v := s.hc.fillTarget
    let db := bypassVolume s
    let vb := max (v * s.rp.cfg.hardnessTarget / hin) db
    let usable := (s.su.bed = .ready ∨ s.su.bed = .depleted) ∧ 0 < s.su.account
    let blends := usable ∧ s.rp.cfg.hardnessTarget < hin ∧ vb < v
    Answers (exec .sampleEnd s) fun t =>
      t.su.hin = some hin ∧ t.su.sample = none ∧ t.su.cellFault = decide fault
        ∧ t.su.plan = some (if blends then ⟨vb, v - vb, s.su.account, db⟩ else ⟨v, 0, s.su.account, db⟩)
        ∧ t.su.gate = (if blends then .requested else .shut)
        ∧ (blends → t.su.predicted = ((v - vb) * hin + 99) / 100) ∧ t.su.account = s.su.account)

/-- R28, R30, R37: the level reading is that of the highest switch closed. HIGH ends an open fill before its target,
and NORMAL ends its TOPUP, with the volumes delivered. A running cycle then leaves FILL; in a pause the stage stays,
and its advance is held (log entry 12). A running drain's after-run is entered at EMPTY and left above it. Of what
reactions leave, a reading that ends no fill changes nothing else (the figures of a fill are left while the level does
not read HIGH). -/
def Obligations.LevelReadingTaken : Prop :=
  ∀ (a b c : Bool) (s : State),
    let level : Level := if c then .high else if b then .normal else if a then .low else .empty
    Answers (exec (.levelReadingChange a b c) s) fun t =>
      t.hc.level = level ∧ t.pins = { s.pins with lvl0 := a, lvl1 := b, lvl2 := c }
        ∧ (s.hc.owner ≠ .fill ∨ (level ≠ .high ∧ (s.hc.fillState = .topup → level ≠ .normal)) → t.kept =
              { s.kept with
                level := level
                fill := ({ s with hc := { s.hc with level := level } }).fillFigures
                pins := t.pins })
        ∧ (s.hc.owner = .fill → fillOpen s.hc.fillState = true →
            level = .high ∨ (s.hc.fillState = .topup ∧ level = .normal) → Steady s →
            t.hc.fillState = .closed ∧ t.hc.owner ≠ .fill ∧ t.cs.ctx.fill.target = s.hc.fillTarget
              ∧ t.cs.ctx.fill.actual = s.hc.pulses * s.rp.cfg.meterK / 64
              ∧ (moving s = true → s.cs.ctx.stage = .fill → (currentRecord s).isSome = true →
                  t.cs.fillHeld = false ∧ (t.cs.ctx.stage = .heat ∨ t.cs.ctx.stage = .hold ∨ t.cs.ctx.stage = .drain))
              ∧ (s.cs.state = .paused → s.cs.ctx.pauses.order = true ∨ s.cs.ctx.pauses.userDoor = true →
                  t.cs.state = .paused ∧ t.cs.fillHeld = true ∧ t.cs.ctx.stage = s.cs.ctx.stage))
        ∧ (s.hc.owner = .fill → s.hc.fillState = .bypass ∨ s.hc.fillState = .soft → level ≠ .high → Steady s →
            (t.hc.fillState = .bypass ∨ t.hc.fillState = .soft) ∧ t.hc.owner = .fill ∧ t.hc.pulses = s.hc.pulses
              ∧ (inCycle s = true → s.cs.ctx.stage = .fill → t.cs.ctx.stage = .fill))
        ∧ (s.hc.owner = .fill → s.hc.fillState = .topup → level = .empty ∨ level = .low → Steady s →
            t.hc.fillState = .topup ∧ t.hc.owner = .fill ∧ t.hc.pulses = s.hc.pulses)
        ∧ (s.hc.drainOn = true → s.hc.owner ≠ .fill → t.hc.drainOn = true ∧ t.hc.drainEmpty = decide (level = .empty))

/-- R34, R33: at the end of a drive period the buffer's level is driven, where the arbiter still grants it: in HEAT,
with the water up and no lowering notice standing, a phase level whose draw fits the allotment beside the base load
and the drain pump. Whatever the state, nothing above the grant is driven. The event acts whenever what it times is
under way (log entry 5). -/
def Obligations.CirculationPeriodDrives : Prop :=
  ∀ (s : State), s.rp.configured = true →
    Answers (exec .circulationPeriodEnd s) fun t =>
      t.kept = s.kept ∧ t.hc.drive ≤ t.sa.grants.circ ∧ t.out.circ = t.hc.drive
        ∧ (∀ r ∈ currentRecord s, moving s = true → s.cs.ctx.stage = .heat → levelUp s = true → Steady s →
            s.su.regen = none → s.hc.buffer = r.level → s.hc.drive ≤ r.level → 1 ≤ r.level → loweringFigure s = none →
            SupplySafe s → s.rp.cfg.baseDraw + s.rp.cfg.drainDraw + circDraw s.rp.cfg r.level ≤ allotment s →
            t.hc.drive = r.level)

/-- R35, R36: the diverter position is the last reading other than BETWEEN. The wanted reading ends a move; a move not
confirmed is stopped, blocks further moves of the phase and is a condition; each 60 s of ALTERNATE ask for the other
end, and count again from 0 when they ask, not when the move is confirmed (log entry 59, DESIGN CHOICE). The event
acts whenever what it times is under way (log entry 5). -/
def Obligations.DiverterMoves : Prop :=
  ∀ (s : State), Steady s → s.hc.service = none →
    (∀ pos : DivPos, Answers (exec (.diverterMoveConfirmed pos) s) fun t =>
      t.hc.divPos = (if pos = .between then s.hc.divPos else pos)
        ∧ t.kept = { s.kept with divPos := t.hc.divPos, pins := { s.pins with divp := pos } }
        ∧ (∀ w ∈ s.hc.divWanted, pos ≠ .between →
            if w = pos ∨ w = .between then t.hc.divWanted = none ∧ t.out.divm = false else t.hc.divWanted = some w))
    ∧ (s.hc.divWanted.isSome → Answers (exec .diverterMoveTimeout s) fun t =>
        t.kept = s.kept ∧ t.hc.divWanted = none ∧ t.hc.divBlocked = true ∧ t.out.divm = false
          ∧ (cycleOn s = true →
              t.cs.ctx.firstCondition = s.cs.ctx.firstCondition.or (some ⟨.hwDiverter, s.cs.ctx.phase⟩)))
    ∧ (moving s = true → s.hc.pattern = some .alternate → s.hc.divBlocked = false → 1 ≤ s.hc.drive →
        Answers (exec .alternateTimer s) fun t =>
          t.kept = s.kept ∧ t.hc.altTimer = 0
            ∧ t.hc.divWanted = some (if s.hc.divWanted.getD s.hc.divPos = .upper then .lower else .upper))

/-- R41, R42: a due turbidity reading is taken in HOLD while circulation runs and has run for 60 s; it counts, and its
class is kept. R5 cases 4 and 5: the end of HOLD latches the class of the last reading of a soil-sense phase, if one
was taken, and begins DRAIN: circulation and heater off, the drain pump on, its end awaited. The event acts whenever
what it times is under way (log entry 5). -/
def Obligations.HoldSensesThenCuts : Prop :=
  (∀ (raw : Nat) (s : State), Steady s →
    let cfg := s.rp.cfg
    let ascending := cfg.t1 < cfg.t2 ∧ cfg.t2 < cfg.t3
    let t1 := if ascending then cfg.t1 else 150
    let t2 := if ascending then cfg.t2 else 380
    let t3 := if ascending then cfg.t3 else 640
    let cls := if raw = 0 ∨ 1023 ≤ raw then 1 else if raw < t1 then 0 else if raw < t2 then 1 else if raw < t3 then 2 else 3
    let due : Bool := moving s && s.cs.ctx.stage == .hold && s.cs.holdStarted && decide (1 ≤ s.hc.drive)
      && decide (240 ≤ s.hc.circTime)
    Answers (exec (.turbidityReading raw) s) fun t =>
      t.kept = { s.kept with pins := { s.pins with turb := raw } }
        ∧ t.hc.turbCount = (if due then s.hc.turbCount + 1 else s.hc.turbCount)
        ∧ t.hc.turbClass = (if due then some cls else s.hc.turbClass))
  ∧ (∀ (s : State),
    (moving s = true ∧ s.cs.ctx.stage = .hold ∧ s.cs.holdStarted = true → Steady s → s.rp.configured = true →
      s.hc.service = none →
      Answers (exec .holdTimerEnd s) fun t =>
        t.kept = s.kept ∧ t.cs.ctx.stage = .drain ∧ t.cs.state = .running ∧ t.hc.drainOn = true ∧ t.hc.drainFor = .cut
          ∧ t.hc.pattern = none ∧ t.out.drain = true ∧ t.out.he1 = false ∧ t.out.circ = 0
          ∧ t.cs.ctx.soilClass = (match s.hc.turbClass with
              | some c => if (currentRecord s).any (·.soil) = true ∧ 0 < s.hc.turbCount then c else s.cs.ctx.soilClass
              | none => s.cs.ctx.soilClass))
    ∧ (¬(moving s = true ∧ s.cs.ctx.stage = .hold ∧ s.cs.holdStarted = true) → exec .holdTimerEnd s = .next s))

/-- R37, R7, R23, R24, R175: the end of an after-run ends that drain and is reported to its asker: a phase's DRAIN
that ends in a pause is held; a final drain with no door movement left ends the cycle; RECOVERY's asks for a write
with the cycle-in-progress flag cleared, and places a weak FLUSH ONLY regeneration (R66, R73) where the bed is SALTED,
the leak latch clear and no tank reserve active; where it places none, it leads to EMPTY. R38: a drain that reaches
its limit before EMPTY was first read goes on as a lingering drain with the pump running; in a cycle it ends the cycle
at once, FAULTED by "drain slow" (log entry 39); in RECOVERY, RECOVERY ends. The event acts whenever what it times is
under way (log entry 5). -/
def Obligations.DrainsEnd : Prop :=
  (∀ (s : State), s.hc.drainOn = true → s.hc.drainEmpty = true →
    (s.hc.drainFor = .cut → inCycle s = true → s.cs.ctx.pauses.order = true ∨ s.cs.ctx.pauses.userDoor = true →
      dryingLive s = false →
      Answers (exec .drainAfterRunEnd s) fun t =>
        t.kept = s.kept ∧ t.hc.drainOn = false ∧ t.cs.drainHeld = true ∧ t.cs.state = .paused
          ∧ t.cs.ctx.stage = s.cs.ctx.stage ∧ t.cs.ctx.phase = s.cs.ctx.phase)
    ∧ (s.hc.drainFor = .final → s.cs.state = .aborting → s.cs.doorMoving = false → s.cs.finalDrain = .running →
        Answers (exec .drainAfterRunEnd s) fun t =>
          t.kept = s.kept ∧ t.hc.drainOn = false ∧ t.cs.state = .ended ∧ t.cs.ctx.stage = .idle ∧ t.cs.amendments = []
            ∧ t.cs.groups = [] ∧ (s.cs.ctx.outcome ≠ .unset → t.cs.ctx.outcome = s.cs.ctx.outcome))
    ∧ (s.hc.drainFor = .recovery → s.cs.state = .recovery →
        let flushes := s.su.bed = .salted ∧ s.hc.leakLatch = false ∧ tankReserve s = false
        Answers (exec .drainAfterRunEnd s) fun t =>
          t.kept = s.kept ∧ t.hc.drainOn = false
            ∧ (s.rp.configured = true → s.su.regen = none → if s.rp.inFlight = none then ∃ w ∈ t.rp.inFlight, w.figures.inProgress = false
                else ∃ w ∈ t.rp.pendingWrite, w.inProgress = some false)
            ∧ (¬flushes → t.cs.state = .empty ∧ (s.su.regen = none → t.su.regen = none))
            ∧ (flushes → t.cs.state = .recovery ∧ t.rp.recovery = some .flush ∧ t.su.bed = .rinsing
                ∧ ∃ x ∈ t.su.regen, x.placement = .recovery ∧ x.full = false ∧ x.weak = true ∧ x.seq = .flush
                  ∧ (x.phase = .inletWait ∨ x.phase = .flowing) ∧ x.vol = 0 ∧ x.steps = 0 ∧ x.water = 0)))
  ∧ (∀ (s : State), s.hc.drainOn = true → s.hc.drainEverEmpty = false → s.hc.drainLingering = false →
    s.rp.configured = true →
    (s.hc.drainFor = .cut ∨ s.hc.drainFor = .final → cycleOn s = true →
      Answers (exec .drainLimit s) fun t =>
        t.cs.state = .ended ∧ t.cs.ctx.outcome = .faulted
          ∧ t.cs.ctx.firstFault = s.cs.ctx.firstFault.or (some ⟨.drainSlow, s.cs.ctx.phase⟩)
          ∧ t.hc.drainOn = true ∧ t.hc.drainLingering = true ∧ t.hc.drainFor = .nobody ∧ t.out.drain = true)
    ∧ (s.hc.drainFor = .recovery → s.cs.state = .recovery →
        Answers (exec .drainLimit s) fun t =>
          t.kept = s.kept ∧ t.cs.state = .empty ∧ t.hc.drainLingering = true ∧ t.out.drain = true))

/-- R7, R8, R6, R177: the DRAIN end of a phase. With its regeneration flag, the want, no regeneration done and no tank
reserve, BRINE of an in-cycle regeneration begins (R66, R72). Otherwise the phase goes through EXIT and hands its
report entry, TC's figures among it (R133; the seconds made of ticks: log entries 54 and 76). Then come ENTRY of the
next record and its FILL; of a DRY record, CONDENSE (R139, R140; its vent timer and stall mark there are log entry
55); of a copy that is inserted (R17), that copy's FILL, with the owner told (a FILL entered under a tank reserve
waits, PAUSED by SUPPLY, its inlet closed: R18); after the last record a post-cycle regeneration that is wanted, HELD
under a tank reserve, which pauses the cycle (R69, R18), or begun; and else the end of the cycle with its summary and
CYCLE END (R24). The amendment set is empty here; R14 to R16 are in AmendmentGroups. -/
def Obligations.DrainEndEntersNextPhase : Prop :=
  (∀ (r : PhaseRecord) (s : State), s.hc.drainOn = true → s.hc.drainEmpty = true → s.hc.drainFor = .cut →
    moving s = true → Steady s → s.hc.level ≠ .high → currentRecord s = some r → s.cs.amendments = [] →
    s.cs.groups = [] → s.su.gate = .shut → s.su.regen = none →
    let k := s.cs.ctx.phase
    let wanted := s.cs.ctx.regenWanted = true ∧ s.cs.ctx.regenDone = false
    let now := r.regen = true ∧ wanted ∧ tankReserve s = false
    let inserts := r.kind = .rinse ∧ r.soil = true ∧ r.ext = true ∧ (s.cs.ctx.soilClass = 2 ∨ s.cs.ctx.soilClass = 3)
      ∧ s.cs.list.length < 12 ∧ s.cs.ctx.inserted < 2
    let last := ¬inserts ∧ s.cs.list.length = k + 1
    let entry : ReportEntry := .phase k r.kind s.tc.under { s.rp.draft with elapsed := s.rp.draft.elapsed / 4 } s.tc.peak
      (s.tc.waitTicks / 4) (s.tc.stage1Ticks / 4) (s.tc.stage2Ticks / 4)
    (now → Answers (exec .drainAfterRunEnd s) fun t =>
        t.hc.drainOn = false ∧ t.cs.ctx.phase = k ∧ t.cs.ctx.stage = .regen ∧ t.cs.state = .running ∧ t.su.bed = .brining
          ∧ t.rp.report = s.rp.report
          ∧ ∃ x ∈ t.su.regen, x.placement = .inCycle ∧ x.full = true ∧ x.seq = .brine ∧ x.phase = .writeWait
            ∧ x.weak = s.pins.salt ∧ x.steps = 0 ∧ x.water = 0)
    ∧ (¬now → Answers (exec .drainAfterRunEnd s) fun t =>
        t.hc.drainOn = false
          ∧ (s.rp.report.length < 15 → t.rp.report[s.rp.report.length]? = some entry)
          ∧ (15 ≤ s.rp.report.length → s.rp.dropped < t.rp.dropped)
          ∧ (∀ q : PhaseRecord, ¬inserts → s.cs.list[k + 1]? = some q → q.kind ≠ .dry → tankReserve s = false →
              t.cs.state = .running ∧ t.cs.ctx.phase = k + 1 ∧ t.cs.ctx.stage = .fill ∧ t.cs.list = s.cs.list
                ∧ t.hc.fillTarget = q.fill ∧ (t.hc.fillState = .waiting ∨ t.hc.fillState = .bypass)
                ∧ (s.rp.report.length < 15 → t.rp.report = s.rp.report ++ [entry])
                ∧ (15 ≤ s.rp.report.length → t.rp.report = s.rp.report ∧ t.rp.dropped = s.rp.dropped + 1))
          ∧ (∀ q : PhaseRecord, ¬inserts → s.cs.list[k + 1]? = some q → q.kind = .dry →
              let d := q.drying.getD ⟨s.rp.cfg.defaultCondense, s.rp.cfg.defaultVent, s.rp.cfg.defaultWantOpen⟩
              d.condense ≠ 0 →
              t.cs.state = .running ∧ t.cs.ctx.phase = k + 1 ∧ t.cs.ctx.stage = .drying ∧ t.out.armx = false
                ∧ t.out.armr = false
                ∧ ∃ x ∈ t.dc.record, x.stage = .condense ∧ x.condense = d.condense ∧ x.vent = d.vent
                  ∧ x.wantOpen = d.wantOpen ∧ x.condenseTimer = 0 ∧ x.ventTimer = 0 ∧ x.reopens = 0
                  ∧ x.stall = false ∧ x.outcome = .unset)
          ∧ (∀ q : PhaseRecord, ¬inserts → s.cs.list[k + 1]? = some q → q.kind ≠ .dry → tankReserve s = true →
              t.cs.state = .paused ∧ t.cs.ctx.pauses = ⟨false, false, true⟩ ∧ t.cs.ctx.phase = k + 1
                ∧ t.cs.ctx.stage = .fill ∧ t.cs.list = s.cs.list ∧ t.hc.fillTarget = q.fill
                ∧ t.hc.fillState = .waiting ∧ t.out.vin = false)
          ∧ (inserts → tankReserve s = true →
              t.cs.state = .paused ∧ t.cs.ctx.pauses = ⟨false, false, true⟩ ∧ t.cs.ctx.phase = k + 1
                ∧ t.cs.ctx.stage = .fill ∧ t.hc.fillTarget = r.fill ∧ t.hc.fillState = .waiting ∧ t.out.vin = false)
          ∧ (inserts → tankReserve s = false →
              t.cs.state = .running ∧ t.cs.ctx.phase = k + 1 ∧ t.cs.ctx.stage = .fill
                ∧ t.cs.ctx.inserted = s.cs.ctx.inserted + 1 ∧ t.hc.fillTarget = r.fill
                ∧ t.cs.list = s.cs.list.take (k + 1) ++ [{ r with ext := false }] ++ s.cs.list.drop (k + 1)
                ∧ (∀ o : Nat, s.cs.ctx.owner = some o → listenOnly s = false →
                    t.li.completions.getLast? =
                      some ⟨o, s.cs.ctx.startTag, .phaseInserted, 0, ⟨.clear, 255⟩, [k + 1]⟩))
          ∧ (last → wanted →
              t.cs.ctx.phase = k ∧ t.cs.ctx.stage = .regen
                ∧ (tankReserve s = true → t.cs.state = .paused ∧ t.cs.ctx.pauses = ⟨false, false, true⟩
                    ∧ ∃ x ∈ t.su.regen, x.placement = .postCycle ∧ x.seq = .held ∧ x.hold = true)
                ∧ (tankReserve s = false → t.cs.state = .running ∧ t.su.bed = .brining
                    ∧ ∃ x ∈ t.su.regen, x.placement = .postCycle ∧ x.seq = .brine ∧ x.phase = .writeWait))
          ∧ (last → ¬wanted →
              let outcome := if s.cs.ctx.outcome ≠ .unset then s.cs.ctx.outcome
                else if s.cs.ctx.firstCondition = none then .done else .doneWithConditions
              t.cs.state = .ended ∧ t.cs.ctx.stage = .idle ∧ t.cs.ctx.outcome = outcome
                ∧ (s.rp.report.length < 15 →
                    t.rp.report = s.rp.report ++ [entry, .summary outcome s.rp.water (s.rp.energy / 14400) s.rp.dropped])
                ∧ (∀ o : Nat, s.cs.ctx.owner = some o → listenOnly s = false →
                    ∃ x ∈ t.li.completions.getLast?, x.dst = o ∧ x.tag = s.cs.ctx.startTag ∧ x.kind = .cycleEnd
                      ∧ x.outcome = outcome.num ∧ x.data = [k])
                ∧ (s.rp.configured = true → (∃ w ∈ t.rp.inFlight, w.figures.inProgress = false)
                    ∨ ∃ p ∈ t.rp.pendingWrite, p.inProgress = some false))))
  ∧ (∀ (k : Nat) (r : PhaseRecord) (s : State),
    let t := insertRinse k r s
    t.cs.amendments = s.cs.amendments.map (fun e => if k < e.target then { e with target := e.target + 1 } else e)
      ∧ t.cs.loadIndex = if k < s.cs.loadIndex then s.cs.loadIndex + 1 else s.cs.loadIndex)

/-- R39: the setting of the leak latch closes the inlet and runs the drain pump, in an UNCONFIGURED part too; in a
cycle it is a fault; a begun regeneration is cut and leaves the bed SALTED. A leak seen while the latch is set changes
only the pin. R39 names no qualifier for the fault, so it is 255, as section 10.5 gives. -/
def Obligations.LeakLatched : Prop :=
  ∀ (s : State),
    (s.hc.leakLatch = false →
      (s.cs.state = .service → s.cs.ctx.serviceReturn = .empty ∨ s.cs.ctx.serviceReturn = .ended) →
      Answers (exec .leakLatchSet s) fun t =>
        t.hc.leakLatch = true ∧ t.out.drain = true ∧ t.out.he1 = false ∧ t.out.vin = false
          ∧ (s.rp.configured = true → inCycle s = true →
              t.cs.ctx.outcome = .faulted ∧ (t.cs.state = .aborting ∨ t.cs.state = .ended)
                ∧ t.cs.ctx.firstFault = s.cs.ctx.firstFault.or (some ⟨.hwLeak, 255⟩))
          ∧ (s.rp.configured = true → ∀ r ∈ s.su.regen, r.seq ≠ .held → Steady s →
              t.su.bed = .salted ∧ t.su.regen = none ∧ t.su.want = true))
    ∧ (s.hc.leakLatch = true → exec .leakLatchSet s = .next { s with pins := { s.pins with leak := true } })

/-- R71, R78, R79, R175: a step that reaches the step limit is cut: the bed is SALTED, the want set and the
regeneration gone. In a cycle it is a fault; a standalone one clears its flag and completes, with the step as
qualifier and with the steps done, the water and the credit as its data (R168; the credit at a cut is the record's:
log entry 53); in RECOVERY, RECOVERY ends. The event acts whenever what it times is under way (log entry 5). -/
def Obligations.StepLimitCuts : Prop :=
  ∀ (r : RegenRecord) (s : State), s.su.regen = some r → stepCounts r = true → Steady s →
    let water := r.water + r.vol
    Answers (exec .stepLimitReached s) fun t =>
      t.su.bed = .salted ∧ t.su.want = true ∧ t.su.regen = none ∧ t.su.account = s.su.account
        ∧ (s.rp.report.length < 15 →
            t.rp.report[s.rp.report.length]? = some (.regeneration r.placement r.steps water 0 r.weak))
        ∧ (r.placement = .inCycle ∨ r.placement = .postCycle → inCycle s = true →
            t.cs.ctx.outcome = .faulted ∧ t.cs.state = .aborting
              ∧ t.cs.ctx.firstFault = s.cs.ctx.firstFault.or (some ⟨.regenerationSlow, s.cs.ctx.phase⟩))
        ∧ (r.placement = .standalone → cycleOn s = false → t.su.regenerating = false
            ∧ (listenOnly s = false → ∃ x ∈ t.li.completions.getLast?, x.dst = r.originator ∧ x.tag = r.tag
                ∧ x.kind = .regenerationEnd ∧ x.sense = ⟨.regenerationSlow, stepNum r.seq⟩
                ∧ x.data = [r.steps, water / 256 % 256, water % 256, r.credit / 65536 % 256, r.credit / 256 % 256,
                    r.credit % 256, if r.weak then 1 else 0]))
        ∧ (r.placement = .recovery → s.cs.state = .recovery → t.cs.state = .empty)

/-- R96: a refill with no dose or service stroke of its reservoir running takes effect at once; one with a job resting
between strokes is held. R96 cases 2 and 3, R94: the end of a service stroke, and that of a job, makes the refill that
it held, unless the other of the two (log entry 73) still holds it; that a stroke from an account of 0 leaves the
exhausted flag is log entry 80. An unknown reservoir is refused. -/
def Obligations.ReservoirFilledRefills : Prop :=
  (∀ (src tag : Nat) (res : Reservoir) (s s0 : State),
    Decodes (.reservoirFilled src tag (if res = .detergent then 0 else 1)) s s0 → s.rp.configured = true →
    Steady s →
    let c := Instr.reservoirFilled src tag (if res = .detergent then 0 else 1)
    ((∀ j ∈ s.du.job, j.res ≠ res) → (∀ v ∈ s.du.svc, v.res = res → v.stroking = false) →
      Answers (exec c s) fun t =>
        tankOf t res = ⟨capacityOf s.rp.cfg res, true, false, false, (tankOf s res).low, false⟩
          ∧ t.li.answers = s0.li.answers ++ [⟨src, tag, .good, ⟨.clear, 255⟩, [], false⟩]
          ∧ (t.rp.inFlight.isSome ∨ t.rp.pendingWrite.isSome))
    ∧ (∀ j ∈ s.du.job, j.res = res → j.phase = .resting →
        Answers (exec c s) fun t =>
          tankOf t res = { tankOf s res with held := true }
            ∧ t.li.answers = s0.li.answers ++ [⟨src, tag, .good, ⟨.clear, 255⟩, [], false⟩]))
  ∧ (∀ (res : Reservoir) (confirmed : Bool) (s : State),
    let tank := tankOf s res
    let less : Tank := if confirmed = true ∧ tank.known = true then
        { tank with account := tank.account - strokeOf s.rp.cfg res,
                    exhausted := tank.exhausted || (decide (0 < tank.account)
                      && decide (tank.account ≤ strokeOf s.rp.cfg res) && !tank.low) }
      else tank
    let jobHolds : Bool := s.du.job.any fun j => j.res == res
    tankOf (endServiceStroke res confirmed s) res =
      if tank.held = true ∧ jobHolds = false then ⟨capacityOf s.rp.cfg res, true, false, false, tank.low, false⟩
      else less)
  ∧ (∀ (e : DoseEnd) (j : DoseJob) (s : State), s.du.job = some j →
    let tank := tankOf s j.res
    let strokeHolds : Bool := s.du.svc.any fun v => v.res == j.res && v.stroking
    (endJob e s).du.job = none
      ∧ tankOf (endJob e s) j.res =
        if tank.held = true ∧ strokeHolds = false then
          ⟨capacityOf s.rp.cfg j.res, true, false, false, tank.low, false⟩
        else tank)
  ∧ (∀ (n : Nat) (s : State), filledTests n s = if n = 0 ∨ n = 1 then none else some ⟨.badField, 255⟩)

/-- R67, R65, R69, R72: FORCE REGENERATION in EMPTY or ENDED sets the want and places a standalone regeneration for
its sender; with no tank reserve BRINE begins at once, the bed is BRINING, and nothing is credited or charged; with
one it is HELD. In a cycle and in LOADED it sets the want. With a regeneration there already, it is answered GOOD and
changes neither the regenerating flag nor the account. It is refused in RECOVERY, in SERVICE and while the leak latch
is set, in that order. -/
def Obligations.ForceRegenerationPlaces : Prop :=
  (∀ (src tag : Nat) (s s0 : State), Decodes (.forceRegeneration src tag) s s0 → s.rp.configured = true →
    s.cs.state ≠ .recovery → s.cs.state ≠ .service → s.hc.leakLatch = false →
    (s.su.regen = none → s.cs.state = .empty ∨ s.cs.state = .ended →
      Answers (exec (.forceRegeneration src tag) s) fun t =>
        t.su.want = true ∧ t.su.regenerating = true ∧ t.cs.state = s.cs.state ∧ t.su.account = s.su.account
          ∧ ∃ r ∈ t.su.regen, r.placement = .standalone ∧ r.full = true ∧ r.originator = src ∧ r.tag = tag
            ∧ (tankReserve s = false → r.seq = .brine ∧ r.phase = .writeWait ∧ t.su.bed = .brining ∧ r.weak = s.pins.salt
                ∧ r.credit = if s.pins.salt then s.rp.cfg.bedCapacity * s.rp.cfg.weakPercent / 100
                    else s.rp.cfg.bedCapacity)
            ∧ (tankReserve s = true → r.seq = .held ∧ t.su.bed = s.su.bed))
    ∧ (s.su.regen = none → cycleOn s = true ∨ s.cs.state = .loaded →
        Answers (exec (.forceRegeneration src tag) s) fun t =>
          t.su.want = true ∧ t.cs.ctx.regenWanted = true ∧ t.su.regenerating = s.su.regenerating)
    ∧ (s.su.regen.isSome → Answers (exec (.forceRegeneration src tag) s) fun t =>
        t.li.answers = s0.li.answers ++ [⟨src, tag, .good, ⟨.clear, 255⟩, [], false⟩]
          ∧ t.su.regenerating = s.su.regenerating ∧ t.su.account = s.su.account))
  ∧ (∀ (s : State),
    forceTests s =
      if s.cs.state = .recovery then some ⟨.nrRecovery, 255⟩
      else if s.cs.state = .service then some ⟨.cfService, 255⟩
      else if s.hc.leakLatch = true then some ⟨.nrLeak, 255⟩ else none)

/-- R43, R44, R45: SERVICE TEST in EMPTY or ENDED, with nothing in its way, keeps the state, makes the part SERVICE
and takes item 1: the route valve stands at SOFT, with the inlet closed. A timed item that has run is marked and the
next is taken; an item whose load is not granted is marked not run, and after item 8 the exercise ends with its
completion. Item 4 asks for a move to the next ring position, or for any reading when only BETWEEN has been read; each
confirmed move asks for the next, until three are made, and a move not confirmed fails the item. Item 8 makes a stroke
of each pump, detergent first; a pump whose known account is below one stroke is marked not run; a confirmed stroke is
deducted and leaves the primed flag, one not confirmed marks the item failed; an early end lets a stroke in progress
end and counts it. The order's tests are R43's cases in their order, "list loaded" before "regenerating" in LOADED
(log entry 71, against R68's words). How items are listed and when a waiting one is given up are log entries 16 and
17; that an item waits whenever its load is not granted is log entry 30, and that a stroke from an account of 0 leaves
the exhausted flag log entry 80. The event acts whenever what it times is under way (log entry 5). -/
def Obligations.ServiceExerciseRuns : Prop :=
  (∀ (src tag : Nat) (s s0 : State), Decodes (.serviceTest src tag) s s0 → s.rp.configured = true →
    s.cs.state = .empty ∨ s.cs.state = .ended → s.su.regenerating = false → s.hc.leakLatch = false →
    s.dc.door = .latched → s.hc.level = .empty → s.hc.drainOn = false → s.su.regen = none →
    Answers (exec (.serviceTest src tag) s) fun t =>
      t.cs.state = .service ∧ t.cs.ctx.serviceReturn = s.cs.state
        ∧ (∃ v ∈ t.hc.service, v.src = src ∧ v.tag = tag ∧ v.item = 1 ∧ v.waiting = false ∧ v.ran = 0 ∧ v.failed = 0
            ∧ v.notRun = 0)
        ∧ t.out.vrouteSoft = true ∧ t.out.vin = false
        ∧ t.li.answers = s0.li.answers ++ [⟨src, tag, .good, ⟨.clear, 255⟩, [], false⟩])
  ∧ (∀ (v : Service) (s : State), s.hc.service = some v →
    (v.waiting = false → v.item = 1 ∨ v.item = 2 ∨ v.item = 3 ∨ v.item = 5 ∨ v.item = 6 → hasItem v.ran v.item = false →
      Answers (exec .serviceItemEnd s) fun t =>
        t.kept = s.kept ∧ ∃ x ∈ t.hc.service, x.item = v.item + 1 ∧ x.ran = v.ran + 2 ^ (v.item - 1)
          ∧ x.failed = v.failed ∧ x.notRun = v.notRun ∧ x.timer = 0 ∧ x.src = v.src ∧ x.tag = v.tag
          ∧ (v.item = 6 → x.waiting = !t.sa.grants.fan ∧ t.out.fan = (t.sa.grants.fan && s.rp.configured)))
    ∧ (v.waiting = true → v.item = 5 → hasItem v.notRun 5 = false →
        Answers (exec .serviceGrantTimeout s) fun t =>
          ∃ x ∈ t.hc.service, x.item = 6 ∧ x.notRun = v.notRun + 16 ∧ x.ran = v.ran ∧ x.failed = v.failed)
    ∧ (v.waiting = true → v.item = 8 → s.cs.ctx.serviceReturn = .empty ∨ s.cs.ctx.serviceReturn = .ended →
        Answers (exec .serviceGrantTimeout s) fun t =>
          t.hc.service = none ∧ t.cs.state = s.cs.ctx.serviceReturn
            ∧ (listenOnly s = false → ∃ x ∈ t.li.completions.getLast?, x.dst = v.src ∧ x.tag = v.tag ∧ x.kind = .serviceEnd
                ∧ x.data = [v.ran, v.failed, addItem 8 v.notRun])))
  ∧ (∀ (s : State),
    serviceTests s =
      if s.cs.state = .running ∨ s.cs.state = .paused ∨ s.cs.state = .aborting ∨ s.cs.state = .service then
        some ⟨.cycleActive, 255⟩
      else if s.cs.state = .recovery then some ⟨.nrRecovery, 255⟩
      else if s.cs.state = .loaded then some ⟨.listLoaded, 255⟩
      else if s.su.regenerating = true then some ⟨.cfRegenerating, 255⟩
      else if s.hc.leakLatch = true then some ⟨.nrLeak, 255⟩
      else if s.dc.door ≠ .latched then some ⟨.doorNotLatched, 255⟩
      else if s.hc.level ≠ .empty ∨ s.hc.drainOn = true then some ⟨.tubNotEmpty, 255⟩ else none)
  ∧ (∀ (v : Service) (s : State), s.hc.service = some v → s.cs.state = .service → s.du.svc = none →
    s.cs.ctx.serviceReturn = .empty ∨ s.cs.ctx.serviceReturn = .ended →
    let ring (p : DivPos) : DivPos := match p with
      | .upper => .both
      | .both => .lower
      | .lower => .upper
      | .between => .between
    let short (res : Reservoir) : Bool := (tankOf s res).known && decide ((tankOf s res).account < strokeOf s.rp.cfg res)
    let strokes (t : State) (res : Reservoir) (ran notRun : Nat) : Prop :=
      ∃ x ∈ t.hc.service, ∃ u ∈ t.du.svc, x.item = 8 ∧ x.ran = ran ∧ x.failed = v.failed ∧ x.notRun = notRun
        ∧ u.res = res ∧ x.waiting = !u.stroking ∧ (u.stroking = true → pumpGranted res t = true)
    let ends (t : State) (ran failed notRun : Nat) : Prop :=
      t.hc.service = none ∧ t.cs.state = s.cs.ctx.serviceReturn
        ∧ (listenOnly s = false → ∃ x ∈ t.li.completions.getLast?, x.dst = v.src ∧ x.tag = v.tag ∧ x.kind = .serviceEnd
            ∧ x.sense = (if failed = 0 then ⟨.clear, 255⟩ else ⟨.hwService, firstItem failed⟩)
            ∧ x.data = [ran, failed, notRun])
    let pumps (t : State) (ran notRun : Nat) : Prop :=
      (short .detergent = false → strokes t .detergent ran notRun)
        ∧ (short .detergent = true → short .rinseAid = false → strokes t .rinseAid ran (addItem 8 notRun))
        ∧ (short .detergent = true → short .rinseAid = true → ends t ran v.failed (addItem 8 notRun))
    (v.item = 3 → v.waiting = false →
      Answers (exec .serviceItemEnd s) fun t =>
        t.kept = s.kept ∧ t.hc.divWanted = some (ring s.hc.divPos) ∧ t.hc.divTimer = 0 ∧ t.out.divm = s.rp.configured
          ∧ ∃ x ∈ t.hc.service, x.item = 4 ∧ x.moves = 0 ∧ x.seeking = decide (s.hc.divPos = .between))
    ∧ (∀ w pos : DivPos, v.item = 4 → s.hc.divWanted = some w → pos ≠ .between → w = pos ∨ w = .between →
        Answers (exec (.diverterMoveConfirmed pos) s) fun t =>
          t.kept = { s.kept with divPos := pos, pins := { s.pins with divp := pos } }
            ∧ (v.seeking = true →
                t.hc.divWanted = some (ring pos) ∧ t.hc.divTimer = 0 ∧ t.hc.service = some { v with seeking := false })
            ∧ (v.seeking = false → v.moves < 2 →
                t.hc.divWanted = some (ring pos) ∧ t.hc.divTimer = 0 ∧ t.hc.service = some { v with moves := v.moves + 1 })
            ∧ (v.seeking = false → 2 ≤ v.moves → t.hc.divWanted = none ∧ t.out.divm = false
                ∧ ∃ x ∈ t.hc.service, x.item = 5 ∧ x.ran = addItem 4 v.ran ∧ x.failed = v.failed ∧ x.notRun = v.notRun
                  ∧ x.waiting = decide (t.sa.grants.circ = 0)))
    ∧ (v.item = 4 → s.hc.divWanted.isSome →
        Answers (exec .diverterMoveTimeout s) fun t =>
          t.kept = s.kept ∧ t.hc.divWanted = none ∧ t.out.divm = false ∧ t.hc.divBlocked = s.hc.divBlocked
            ∧ ∃ x ∈ t.hc.service, x.item = 5 ∧ x.ran = v.ran ∧ x.failed = addItem 4 v.failed ∧ x.notRun = v.notRun)
    ∧ (v.item = 7 → v.waiting = false →
        Answers (exec .serviceItemEnd s) fun t => t.kept = s.kept ∧ t.out.fan = false ∧ pumps t (addItem 7 v.ran) v.notRun)
    ∧ (v.item = 7 → v.waiting = true →
        Answers (exec .serviceGrantTimeout s) fun t =>
          t.kept = s.kept ∧ t.out.fan = false ∧ pumps t v.ran (addItem 7 v.notRun)))
  ∧ (∀ (u : ServiceStroke) (s : State), s.du.svc = some u → u.stroking = true → s.du.job = none →
    (tankOf s u.res).held = false →
    let tank := tankOf s u.res
    let vol := strokeOf s.rp.cfg u.res
    let less : Tank := if tank.known then
        { tank with account := tank.account - vol,
                    exhausted := tank.exhausted || (decide (0 < tank.account) && decide (tank.account ≤ vol) && !tank.low) }
      else tank
    let short := s.du.rin.known = true ∧ s.du.rin.account < s.rp.cfg.rinStroke
    (∀ v ∈ s.hc.service, v.item = 8 → s.cs.state = .service →
      s.cs.ctx.serviceReturn = .empty ∨ s.cs.ctx.serviceReturn = .ended →
      let goesOn (t : State) (ran failed : Nat) : Prop :=
        (u.res = .detergent → ¬short →
            ∃ x ∈ t.hc.service, ∃ y ∈ t.du.svc, x.item = 8 ∧ x.ran = ran ∧ x.failed = failed ∧ x.notRun = v.notRun
              ∧ y.res = .rinseAid ∧ x.waiting = !y.stroking)
          ∧ (u.res = .rinseAid ∨ short →
              let notRun := if u.res = .detergent then addItem 8 v.notRun else v.notRun
              t.du.svc = none ∧ t.hc.service = none ∧ t.cs.state = s.cs.ctx.serviceReturn
                ∧ (listenOnly s = false → ∃ x ∈ t.li.completions.getLast?, x.dst = v.src ∧ x.tag = v.tag
                    ∧ x.kind = .serviceEnd ∧ x.data = [ran, failed, notRun]
                    ∧ x.sense = if failed = 0 then ⟨.clear, 255⟩ else ⟨.hwService, firstItem failed⟩))
      (Answers (exec (.strokeConfirmed u.res) s) fun t =>
          t.kept = s.kept ∧ tankOf t u.res = less ∧ goesOn t (addItem 8 v.ran) v.failed)
        ∧ (Answers (exec .strokeTimeout s) fun t =>
            t.kept = s.kept ∧ tankOf t u.res = tank ∧ goesOn t v.ran (addItem 8 v.failed)))
    ∧ (s.hc.service = none → Steady s →
        (Answers (exec (.strokeConfirmed u.res) s) fun t => t.kept = s.kept ∧ tankOf t u.res = less ∧ t.du.svc = none)
          ∧ (Answers (exec .strokeTimeout s) fun t => t.kept = s.kept ∧ tankOf t u.res = tank ∧ t.du.svc = none)))

/-! ## Doses -/

/-- R89, R91, R93, R95: the sensor's report ends a stroke: a known account falls by its volume, not below 0, and the
stroke counts toward priming or toward the dose; the report is discarded while the pump of that reservoir is off. 2 s
without one count an unconfirmed stroke, and a third in a row is a pump fault. The rest over, the next stroke is asked
for, or the job stops while the cycle is paused. A stroke that runs at an abort or a fault ends its job ABORTED,
whatever its counts. R90, R92: a stroke begins only on its pump's grant, and is cut, to be made again, when the grant
is withdrawn; no step leaves a stroke without its grant; a stroke that a low, known account cannot cover ends the job
CUT LOW, underdosed, with its condition. R84, R85: a reading that becomes LOW reconciles its reservoir's account with
the threshold and makes it known; one that becomes NOT LOW changes no account; either clears the exhausted flag. That
either change clears the flag is log entry 15, and that a stroke from an account of 0 leaves it as it was log entry
80. A stroke of a job waits for a service stroke still in progress, and no
step leaves both in progress: the model's choice (log entry 73), as is the moment of the low-level test, the grant
(log entry 77). The event of a timer acts whenever what it times is under way (log entry 5). -/
def Obligations.StrokesAndSwitchesKeepAccount : Prop :=
  (∀ (j : DoseJob) (s : State), s.du.job = some j → s.du.svc = none → Steady s → (tankOf s j.res).held = false →
    let tank := tankOf s j.res
    let vol := strokeOf s.rp.cfg j.res
    let less : Tank := if tank.known then
        { tank with account := tank.account - vol,
                    exhausted := tank.exhausted || (decide (0 < tank.account) && decide (tank.account ≤ vol) && !tank.low) }
      else tank
    let rests : DoseJob := { j with phase := .resting, timer := 0 }
    (j.phase = .stroking → j.aborting = false →
      (j.priming = 0 → j.confirmed + 1 < j.wanted →
        Answers (exec (.strokeConfirmed j.res) s) fun t =>
          t.kept = s.kept ∧ t.du.job = some { rests with unconfirmed := 0, confirmed := j.confirmed + 1 }
            ∧ tankOf t j.res = less)
      ∧ (0 < j.priming → j.confirmed < j.wanted →
          Answers (exec (.strokeConfirmed j.res) s) fun t =>
            t.kept = s.kept ∧ t.du.job = some { rests with unconfirmed := 0, priming := j.priming - 1 }
              ∧ tankOf t j.res = if j.priming = 1 then { less with primed := true } else less)
      ∧ (j.priming = 0 → j.wanted ≤ j.confirmed + 1 →
          Answers (exec (.strokeConfirmed j.res) s) fun t =>
            t.kept = s.kept ∧ t.du.job = none ∧ tankOf t j.res = less)
      ∧ (j.unconfirmed < 2 → Answers (exec .strokeTimeout s) fun t =>
          t.kept = s.kept ∧ t.du.job = some { rests with unconfirmed := j.unconfirmed + 1 } ∧ tankOf t j.res = tank)
      ∧ (2 ≤ j.unconfirmed → Answers (exec .strokeTimeout s) fun t =>
          t.kept = s.kept ∧ t.du.job = none ∧ tankOf t j.res = tank
            ∧ (cycleOn s = true →
                t.cs.ctx.firstCondition = s.cs.ctx.firstCondition.or (some ⟨.dosePump, s.cs.ctx.phase⟩))))
    ∧ (j.phase = .stroking → j.aborting = true → s.su.regen = none →
        let ended (t : State) (confirmed : Nat) : Prop :=
          t.kept = s.kept ∧ t.du.job = none ∧ t.rp.draft.underdose = s.rp.draft.underdose
            ∧ t.rp.draft.doseDelivered = s.rp.draft.doseDelivered + confirmed * vol
            ∧ t.cs.ctx.firstCondition = s.cs.ctx.firstCondition
        (Answers (exec (.strokeConfirmed j.res) s) fun t =>
            ended t (if 0 < j.priming then j.confirmed else j.confirmed + 1)
              ∧ tankOf t j.res = if j.priming = 1 then { less with primed := true } else less)
          ∧ (Answers (exec .strokeTimeout s) fun t => ended t j.confirmed ∧ tankOf t j.res = tank))
    ∧ (∀ res : Reservoir, j.phase ≠ .stroking ∨ j.res ≠ res → exec (.strokeConfirmed res) s = .next s)
    ∧ (j.phase = .resting →
        (inCycle s = true → s.cs.ctx.pauses.order = true ∨ s.cs.ctx.pauses.userDoor = true →
          Answers (exec .strokeRestEnd s) fun t =>
            t.kept = s.kept ∧ t.du.job = some { j with phase := .stopped, timer := 0 } ∧ tankOf t j.res = tank)
        ∧ (s.cs.ctx.pauses.any = false → tankReserve s = false →
            Answers (exec .strokeRestEnd s) fun t =>
              t.kept = s.kept ∧ ∀ x ∈ t.du.job, x.confirmed = j.confirmed ∧ x.priming = j.priming
                ∧ (x.phase = .waiting ∨ x.phase = .stroking))))
  ∧ (∀ (res : Reservoir) (low : Bool) (s : State), (tankOf s res).held = false →
    let tank := tankOf s res
    let threshold := thresholdOf s.rp.cfg res
    Answers (exec (.lowSwitchDebounced res low) s) fun t =>
      t.kept = s.kept ∧ (tankOf t res).low = low
        ∧ (tankOf t res).known = (tank.known || (low && !tank.low))
        ∧ (tankOf t res).exhausted = (if tank.low = low then tank.exhausted else false)
        ∧ (tankOf t res).account =
            (if low = true ∧ tank.low = false then (if tank.known then min tank.account threshold else threshold)
             else tank.account))
  ∧ (∀ (j : DoseJob) (s : State), s.du.job = some j →
    let granted := match j.res with
      | .detergent => s.sa.grants.det
      | .rinseAid => s.sa.grants.rin
    let tank := tankOf s j.res
    let short := tank.known = true ∧ tank.low = true ∧ tank.account < strokeOf s.rp.cfg j.res
    let begins := j.phase = .waiting ∧ granted = true ∧ ∀ v ∈ s.du.svc, v.stroking = false
    let t := serveDose s
    let strokeHolds : Bool := s.du.svc.any fun v => v.res == j.res && v.stroking
    (j.phase = .stroking → granted = false → tankOf t j.res = (if tank.held ∧ j.aborting = true ∧ strokeHolds = false then
          ⟨capacityOf s.rp.cfg j.res, true, false, false, tank.low, false⟩ else tank)
        ∧ t.du.job = if j.aborting then none else some { j with phase := .waiting, timer := 0 })
      ∧ (begins → short →
          t.du.job = none ∧ t.rp.draft.underdose = true
            ∧ t.rp.draft.doseDelivered = s.rp.draft.doseDelivered + j.confirmed * strokeOf s.rp.cfg j.res
            ∧ (tank.held = false → tankOf t j.res = tank)
            ∧ (cycleOn s = true → t.cs.ctx.firstCondition = s.cs.ctx.firstCondition.or
                (some ⟨if j.res = .detergent then .detergentLow else .rinseAidLow, s.cs.ctx.phase⟩)))
      ∧ (begins → ¬short →
          t.du.job = some { j with phase := .stroking, timer := 0 }
            ∧ tankOf t j.res = { tank with primed := tank.primed || decide (j.priming = 0) })
      ∧ (¬(j.phase = .stroking ∧ granted = false) → ¬begins → t = s))
  ∧ (∀ (s t : State), (∀ j ∈ s.du.job, j.phase = .stroking → pumpGranted j.res s = true) → step s = .next t →
    ∀ j ∈ t.du.job, j.phase = .stroking → pumpGranted j.res t = true)
  ∧ (∀ (s t : State), ¬(jobStroking s = true ∧ serviceStroking s = true) → step s = .next t →
    ¬(jobStroking t = true ∧ serviceStroking t = true))

/-! ## Heat -/

/-- R121, R122, R127: a valid reading becomes the tub temperature and makes the sensor GOOD; at or above the target it
ends HEAT; at 85.0 °C it sets the overtemperature latch, which opens the relays and is a fault in a cycle. A reading
out of range is not used. The OTC cut sets the latch too. A sensor that becomes FAULTED lets no element be energized,
and in a cycle it is a fault, reported once a cycle. A reading that ends HEAT ends it while the cycle runs with no
pause (log entry 12). A reading at which both the latch and the end of HEAT fall due sets the latch (log entry 60).
The sensor fault acts whatever the count of bad readings (log entry 5). -/
def Obligations.TemperatureGuards : Prop :=
  (∀ (s : State),
    (∀ n : Nat, n ≤ 999 → n < 850 ∨ s.tc.overtemp = true →
      Answers (exec (.temperatureReading n) s) fun t =>
        t.kept = { s.kept with tub := n, badRun := 0, faulted := false, pins := { s.pins with temp := n } }
          ∧ (moving s = true → s.cs.ctx.stage = .heat → Steady s →
              if s.tc.target ≤ n then t.cs.ctx.stage = .hold ∨ t.cs.ctx.stage = .drain else t.cs.ctx.stage = .heat))
    ∧ (∀ n : Nat, 850 ≤ n → n ≤ 999 → s.tc.overtemp = false →
        Answers (exec (.temperatureReading n) s) fun t =>
          t.tc.tub = n ∧ t.tc.overtemp = true ∧ t.out.he1 = false ∧ t.out.he2 = false
            ∧ (cycleOn s = true → t.cs.ctx.outcome = .faulted
                ∧ t.cs.ctx.firstFault = s.cs.ctx.firstFault.or (some ⟨.hwOvertemperature, s.cs.ctx.phase⟩)))
    ∧ (∀ x : Int, x < 0 ∨ 999 < x →
        Answers (exec (.temperatureReading x) s) fun t =>
          t.kept = { s.kept with badRun := s.tc.badRun + 1, pins := { s.pins with temp := x } })
    ∧ (s.tc.overtemp = false →
        Answers (exec .otcCut s) fun t =>
          t.tc.overtemp = true ∧ t.out.he1 = false ∧ t.out.he2 = false ∧ t.tc.tub = s.tc.tub
            ∧ (cycleOn s = true → t.cs.ctx.outcome = .faulted
                ∧ t.cs.ctx.firstFault = s.cs.ctx.firstFault.or (some ⟨.hwOvertemperature, s.cs.ctx.phase⟩)))
    ∧ (s.tc.overtemp = true → exec .otcCut s = .next { s with pins := { s.pins with otc := true } }))
  ∧ (∀ (s : State),
    (s.tc.faulted = false →
      Answers (exec .sensorFault s) fun t =>
        t.tc.faulted = true ∧ t.out.he1 = false ∧ t.out.he2 = false ∧ t.tc.tub = s.tc.tub
          ∧ (cycleOn s = true → s.tc.sensorReported = false →
              t.tc.sensorReported = true ∧ t.cs.ctx.outcome = .faulted
                ∧ t.cs.ctx.firstFault = s.cs.ctx.firstFault.or (some ⟨.temperatureSensor, s.cs.ctx.phase⟩))
          ∧ (cycleOn s = false ∨ s.tc.sensorReported = true → t.kept = { s.kept with faulted := true }))
    ∧ (s.tc.faulted = true → exec .sensorFault s = .next s))

/-- R128, R129, R131: the two limits of HEAT. Each marks the phase under-temperature, raises its condition and ends
HEAT; the element-on limit disables the heater of the cycle, the supply-wait limit lowers the hold setpoint to the
water as it is. The event acts whenever what it times is under way; an early supply-wait limit brings the seconds that
R133 reports to it with the timer (log entry 5). -/
def Obligations.HeatLimitsEndHeat : Prop :=
  ∀ (s : State), moving s = true → s.cs.ctx.stage = .heat → Steady s →
    (0 < s.tc.driven →
      Answers (exec .elementOnLimit s) fun t =>
        t.kept = { s.kept with disabled := true } ∧ t.tc.under = true ∧ t.out.he1 = false ∧ t.out.he2 = false
          ∧ (t.cs.ctx.stage = .hold ∨ t.cs.ctx.stage = .drain)
          ∧ t.cs.ctx.firstCondition = s.cs.ctx.firstCondition.or (some ⟨.hwHeater, s.cs.ctx.phase⟩))
    ∧ (s.tc.driven = 0 → s.tc.overtemp = false → s.tc.faulted = false →
        Answers (exec .supplyWaitLimit s) fun t =>
          t.kept = s.kept ∧ t.tc.under = true ∧ t.tc.setpoint = min s.tc.tub s.tc.target
            ∧ t.tc.waitTicks = s.tc.waitTicks + (240 * s.rp.cfg.supplyLimit - s.tc.supplyWait)
            ∧ (t.cs.ctx.stage = .hold ∨ t.cs.ctx.stage = .drain)
            ∧ t.cs.ctx.firstCondition = s.cs.ctx.firstCondition.or
                (some ⟨if 1 ≤ s.hc.drive ∧ levelUp s = true then .noHeadroom else .noCirculation, s.cs.ctx.phase⟩))

/-! ## Door and drying -/

/-- R136, R18, R45, R148: the door reads LATCHED by its latch switch, else AJAR by the ajar switch, else OPEN. Leaving
LATCHED in a phase other than DRY pauses the cycle; in SERVICE it ends the exercise; OPEN ends drying, by the user,
but not the CLOSING of a wind-down, which runs on freely (R146), in a cycle started meanwhile too (log entry 39);
R144: the door pushed to LATCHED in VENT makes VENT-CLOSED, not eligible to be re-opened. How the cut short exercise
lists its items is log entry 16. -/
def Obligations.DoorReadingTaken : Prop :=
  ∀ (latch ajar : Bool) (s : State),
    let door : Door := if latch then .latched else if ajar then .ajar else .opened
    Answers (exec (.doorReadingChange latch ajar) s) fun t =>
      t.kept = { s.kept with door := door, pins := { s.pins with latch := latch, ajar := ajar } }
        ∧ (s.dc.door = .latched → door ≠ .latched → inCycle s = true → inDryPhase s = false →
            (∀ r ∈ s.dc.record, r.stage = .ended ∨ r.stage = .closing ∧ r.closingTo = .windDown) →
            t.cs.state = .paused ∧ t.cs.ctx.pauses.userDoor = true ∧ t.cs.ctx.stage = s.cs.ctx.stage
              ∧ t.out.he1 = false ∧ t.out.he2 = false)
        ∧ (s.dc.door = .latched → door ≠ .latched → s.cs.state = .service → s.hc.service.isSome →
            s.cs.ctx.serviceReturn = .empty ∨ s.cs.ctx.serviceReturn = .ended →
            t.cs.state = s.cs.ctx.serviceReturn ∧ t.hc.service = none)
        ∧ (∀ r ∈ s.dc.record, r.stage = .closing → r.closingTo = .windDown → door = .opened → s.dc.move = .close →
            s.pins.home = false → s.cs.drainHeld = false → s.cs.fillHeld = false →
            t.dc.record = some r ∧ t.dc.move = .close ∧ (inCycle s = true → t.cs.ctx.phase = s.cs.ctx.phase))
        ∧ (∀ r ∈ s.dc.record, r.stage ≠ .ended → (r.stage = .closing → r.closingTo ≠ .windDown) → door = .opened →
            s.cs.state = .running → s.cs.ctx.phase + 1 = s.cs.list.length → s.cs.drainHeld = false → s.cs.fillHeld = false →
            ∃ x ∈ t.dc.record, x.stage = .ended ∧ x.outcome = .userOpened ∧ x.reopens = r.reopens)
        ∧ (∀ r ∈ s.dc.record, r.stage = .vent → door = .latched → s.cs.drainHeld = false → s.cs.fillHeld = false →
            t.dc.move = .still ∧ t.out.armx = false ∧ t.out.armr = false
              ∧ t.dc.record = some { r with stage := .ventClosed, eligible := false })

/-- R140, R147: the end of CONDENSE takes the final plan by wish, motion, door and arm, and goes on to OPENING or
VENT-CLOSED; the end of the vent time closes the door from VENT, or leaves it AJAR with the mark set, as configured.
In OPENING it stops the extension: with close after vent set it closes the door, or ends drying LATCHED when the arm
has not left HOME; with it clear, and in VENT-CLOSED, it ends drying LATCHED, or LEFT AJAR with the mark set at a door
that reads AJAR. A CLOSING runs on, toward the end of drying, its re-open eligible mark kept (log entry 81). A CLOSING
that finds LATCHED and HOME read already is over at once (R146; log entry 79). The event acts whenever what it times is under way (log entry 5). -/
def Obligations.DryingStagesEnd : Prop :=
  ∀ (r : DryRecord) (s : State), s.dc.record = some r → s.cs.state = .running → s.cs.drainHeld = false →
    s.cs.fillHeld = false →
    let reads := s.dc.door = .latched ∧ s.pins.home = true
    (r.stage = .condense → r.vent ≠ 0 →
      let opens := r.wantOpen = true ∧ motionPermitted s = true ∧ s.dc.door = .latched ∧ s.dc.arm = .home
      Answers (exec .condenseEnd s) fun t =>
        t.kept = s.kept ∧ t.cs.ctx.final = (if opens then .openDry else .closedDry)
          ∧ ∃ x ∈ t.dc.record, x.ventTimer = 0
            ∧ if opens then x.stage = .opening ∧ t.dc.move = .release else x.stage = .ventClosed ∧ x.eligible = false)
    ∧ (r.stage ≠ .condense → exec .condenseEnd s = .next s)
    ∧ (r.stage = .vent → s.rp.cfg.closeAfterVent = true →
        Answers (exec .ventTimerEnd s) fun t =>
          t.kept = s.kept ∧ (¬reads → t.dc.move = .close ∧ ∃ x ∈ t.dc.record, x.stage = .closing ∧ x.closingTo = .finish)
            ∧ (reads → s.cs.ctx.phase + 1 = s.cs.list.length →
                t.dc.arm = .home ∧ ∃ x ∈ t.dc.record, x.stage = .ended ∧ x.outcome = .latched))
    ∧ (r.stage = .vent → s.rp.cfg.closeAfterVent = false → s.cs.ctx.phase + 1 = s.cs.list.length →
        Answers (exec .ventTimerEnd s) fun t =>
          t.kept = s.kept ∧ t.dc.leftAjar = true
            ∧ ∃ x ∈ t.dc.record, x.stage = .ended ∧ x.outcome = .leftAjar)
    ∧ (r.stage = .opening → s.rp.cfg.closeAfterVent = true → s.dc.arm ≠ .home →
        Answers (exec .ventTimerEnd s) fun t =>
          t.kept = s.kept
            ∧ (¬reads → t.dc.move = .close ∧ t.out.armx = false ∧ t.out.lrel = false
                ∧ ∃ x ∈ t.dc.record, x.stage = .closing ∧ x.closingTo = .finish)
            ∧ (reads → s.cs.ctx.phase + 1 = s.cs.list.length →
                t.dc.arm = .home ∧ t.out.armx = false ∧ t.out.lrel = false
                  ∧ ∃ x ∈ t.dc.record, x.stage = .ended ∧ x.outcome = .latched))
    ∧ (r.stage = .opening → s.rp.cfg.closeAfterVent = true → s.dc.arm = .home → s.cs.ctx.phase + 1 = s.cs.list.length →
        Answers (exec .ventTimerEnd s) fun t =>
          t.kept = s.kept ∧ t.dc.arm = .home ∧ t.out.armx = false ∧ t.out.lrel = false
            ∧ ∃ x ∈ t.dc.record, x.stage = .ended ∧ x.outcome = .latched)
    ∧ ((r.stage = .opening ∧ s.rp.cfg.closeAfterVent = false) ∨ r.stage = .ventClosed →
        s.cs.ctx.phase + 1 = s.cs.list.length →
        Answers (exec .ventTimerEnd s) fun t =>
          t.kept = s.kept ∧ t.out.armx = false ∧ t.out.lrel = false
            ∧ t.dc.leftAjar = (decide (s.dc.door = .ajar) || s.dc.leftAjar)
            ∧ ∃ x ∈ t.dc.record, x.stage = .ended ∧ x.outcome = if s.dc.door = .ajar then .leftAjar else .latched)
    ∧ (r.stage = .closing → s.dc.move = .close → r.closingTo ≠ .windDown →
        Answers (exec .ventTimerEnd s) fun t =>
          t.kept = s.kept
            ∧ (¬reads → t.dc.move = .close
                ∧ t.dc.record = some { r with closingTo := .finish, ventTimer := 4 * r.vent })
            ∧ (reads → s.cs.ctx.phase + 1 = s.cs.list.length →
                t.dc.arm = .home ∧ ∃ x ∈ t.dc.record, x.stage = .ended ∧ x.outcome = .latched))
    ∧ (r.stage = .condense ∨ r.stage = .ended → exec .ventTimerEnd s = .next s)

/-- R141, R146, R150, R143: the arm's events. Latch release over, ARMX is energized with the grant and the permission,
LREL until the door reads AJAR; GAP read in an extension makes VENT; HOME read, at the travel limit too, ends a
parking move and, with the door LATCHED, a closing, which goes on to VENT-CLOSED, to the end of drying, or to the end
of the door movement of a wind-down, where the door may be OPEN too; the travel limit stalls a parking move without a
condition, an opening with one, and a closing with a fault (that of a closing which has outlived its cycle: log entry
39). The arm moves away from HOME only in OPENING while motion is permitted. The event acts whenever what it times is
under way (log entry 5); a move clears the pins HOME and GAP (log entry 28); what follows in the same event are the
reactions (log entry 34); that a retraction stopped by its travel limit with HOME closed leaves the arm HOME is log
entry 68. -/
def Obligations.ArmEvents : Prop :=
  (∀ (s : State),
    (s.dc.move = .release → s.sa.grants.actuator = true →
      exec .lrelDelayEnd s = .next (finish
        { s with
          pins := { s.pins with home := false, gap := false }
          dc := { s.dc with
            move := .extend, held := false, arm := .extending, lrelOn := decide (s.dc.door ≠ .ajar), lrelTimer := 0 } }))
    ∧ (∀ r ∈ s.dc.record, s.dc.move = .release → s.sa.grants.actuator = true → r.stage = .opening →
        s.cs.ctx.stage = .drying → s.dc.permitted = true → motionPermitted s = true → s.cs.drainHeld = false →
        s.cs.fillHeld = false → s.su.regen = none → s.hc.service = none → s.rp.configured = true →
        loweringFigure s = none → SupplySafe s →
        s.rp.cfg.baseDraw + s.rp.cfg.drainDraw + s.rp.cfg.actuatorDraw ≤ allotment s →
        Answers (exec .lrelDelayEnd s) fun t =>
          t.kept = { s.kept with pins := { s.pins with home := false, gap := false } } ∧ t.dc.arm = .extending
            ∧ t.dc.move = .extend ∧ t.out.armx = true ∧ t.out.armr = false
            ∧ t.out.lrel = decide (s.dc.door ≠ .ajar) ∧ t.dc.record = some r)
    ∧ (s.dc.move ≠ .release ∨ s.sa.grants.actuator = false → exec .lrelDelayEnd s = .next s)
    ∧ (∀ r ∈ s.dc.record, s.dc.move = .extend → s.dc.arm = .extending → s.dc.permitted = true →
        motionPermitted s = true → s.cs.drainHeld = false → s.cs.fillHeld = false →
        Answers (exec .armGapRead s) fun t =>
          t.kept = { s.kept with pins := { s.pins with gap := true, home := false } } ∧ t.dc.arm = .atGap
            ∧ t.dc.move = .still ∧ t.out.armx = false ∧ t.out.lrel = false
            ∧ t.dc.record = some { r with stage := .vent })
    ∧ (s.dc.move = .park → Steady s →
        (Answers (exec .armHomeRead s) fun t =>
          t.kept = { s.kept with pins := { s.pins with home := true, gap := false } } ∧ t.dc.arm = .home
            ∧ t.dc.move = .still ∧ t.out.armr = false)
        ∧ (∀ home : Bool, armMoves s = true →
            Answers (exec (.armTravelLimit home) s) fun t =>
              t.kept = { s.kept with pins := { s.pins with home := home } } ∧ t.dc.arm = (if home then .home else .stalled) ∧ t.dc.move = .still
                ∧ (s.su.regen = none → s.du.job = none → t.cs.ctx.firstCondition = s.cs.ctx.firstCondition)))
    ∧ (∀ r ∈ s.dc.record, s.dc.move = .close → r.stage = .closing → r.closingTo = .ventClosed → s.dc.door = .latched →
        s.cs.drainHeld = false → s.cs.fillHeld = false → 0 < s.rp.cfg.settleTime →
        ∀ c ∈ [Instr.armHomeRead, .armTravelLimit true], c = .armHomeRead ∨ armMoves s = true →
        Answers (exec c s) fun t =>
          t.dc.arm = .home ∧ t.out.armr = false ∧ ∃ x ∈ t.dc.record, x.stage = .ventClosed ∧ x.eligible = r.eligible)
    ∧ (∀ r ∈ s.dc.record, s.dc.move = .close → r.stage = .closing → r.closingTo = .finish → s.dc.door = .latched →
        s.cs.state = .running → inDryPhase s = true → s.cs.ctx.phase + 1 = s.cs.list.length → s.cs.drainHeld = false →
        s.cs.fillHeld = false →
        ∀ c ∈ [Instr.armHomeRead, .armTravelLimit true], c = .armHomeRead ∨ armMoves s = true →
        Answers (exec c s) fun t =>
          t.dc.arm = .home ∧ t.out.armr = false ∧ t.dc.move = .still
            ∧ (∃ x ∈ t.dc.record, x.stage = .ended ∧ x.outcome = .latched)
            ∧ (s.cs.ctx.regenWanted = false → t.cs.state = .ended))
    ∧ (∀ r ∈ s.dc.record, s.dc.move = .close → r.stage = .closing → r.closingTo = .windDown →
        s.dc.door = .latched ∨ s.dc.door = .opened →
        (inCycle s = true → s.cs.drainHeld = false ∧ s.cs.fillHeld = false) →
        ∀ c ∈ [Instr.armHomeRead, .armTravelLimit true], c = .armHomeRead ∨ armMoves s = true →
        Answers (exec c s) fun t =>
          t.dc.arm = .home ∧ t.out.armr = false ∧ t.dc.move = .still ∧ t.cs.doorMoving = false
            ∧ (∃ x ∈ t.dc.record, x.stage = .ended)
            ∧ (s.cs.state = .aborting → s.cs.finalDrain = .ended → t.cs.state = .ended))
    ∧ (∀ (home : Bool), ∀ r ∈ s.dc.record, s.dc.move = .extend → s.dc.arm = .extending → cycleOn s = true →
        s.cs.drainHeld = false → s.cs.fillHeld = false → r.condense ≠ 0 →
        Answers (exec (.armTravelLimit home) s) fun t =>
          t.cs.ctx.firstCondition = s.cs.ctx.firstCondition.or (some ⟨.doorStall, s.cs.ctx.phase⟩)
            ∧ ∃ x ∈ t.dc.record, x.stall = true ∧ x.eligible = false
              ∧ if home then x.stage = .ventClosed else x.stage = .closing ∧ x.closingTo = .ventClosed)
    ∧ (∀ home : Bool, s.dc.move = .close → s.dc.arm = .retracting → inCycle s = true →
        (∀ r ∈ s.dc.record, home = true → r.stage = .closing →
          s.dc.door ≠ .latched ∧ (r.closingTo = .windDown → s.dc.door ≠ .opened)) →
        Answers (exec (.armTravelLimit home) s) fun t =>
          t.cs.ctx.outcome = .faulted ∧ (t.cs.state = .aborting ∨ t.cs.state = .ended)
            ∧ t.cs.ctx.firstFault = s.cs.ctx.firstFault.or (some ⟨.doorStall, s.cs.ctx.phase⟩)))
  ∧ (∀ (s t : State), ArmGuarded s → step s = .next t → ArmGuarded t)

/-- R137, R144, R145: a lapse ends the validity of a station's motion part and of no other; in VENT a motion loss
closes the door, and it may be re-opened; with LATCHED and HOME read already the closing is over at once (R146; log
entry 79). After the settle time in VENT-CLOSED with all that it needs, the door is opened again. That a lapse clears
the mark of validity in the entry is log entry 44. The event acts whenever what it times is under way (log entry 5).
-/
def Obligations.MotionDecidesTheDoor : Prop :=
  ∀ (s : State), s.cs.drainHeld = false → s.cs.fillHeld = false →
    (∀ station : Nat,
      let lapsed := s.sa.view.map fun e =>
        if e.station = station then { e with motion := e.motion.map fun m => { m with valid := false } } else e
      Answers (exec (.motionValidityLapse station) s) fun t =>
        t.kept = { s.kept with view := lapsed }
          ∧ (∀ r ∈ s.dc.record, r.stage = .vent → s.dc.permitted = true → motionValid station s = true →
              motionPermitted { s with sa := { s.sa with view := lapsed } } = false →
              ∃ x ∈ t.dc.record, x.eligible = true
                ∧ if s.dc.door = .latched ∧ s.pins.home = true then x.stage = .ventClosed ∧ t.dc.arm = .home
                  else x.stage = .closing ∧ x.closingTo = .ventClosed))
    ∧ (∀ r ∈ s.dc.record, r.stage = .ventClosed → s.cs.state = .running → s.dc.permitted = true →
        motionPermitted s = true → s.dc.door = .latched → s.dc.arm = .home → r.eligible = true →
        r.reopens < s.rp.cfg.reopenLimit → r.stall = false → r.ventTimer < 4 * r.vent →
        s.cs.ctx.pauses.any = false → tankReserve s = false →
        Answers (exec .settleTimerEnd s) fun t =>
          t.kept = s.kept ∧ t.dc.move = .release
            ∧ ∃ x ∈ t.dc.record, x.stage = .opening ∧ x.reopens = r.reopens + 1 ∧ x.ventTimer = r.ventTimer)

/-! ## The stored record -/

/-- R174, R53, R72: a completed write gives the record image and the memory its figures, and opens a gate that it
served, and a pending write begins, with the figures of that moment and the flag last asked for; a failed one changes
neither and is made anew at once, with the figures of that moment, for all it served and all that asked meanwhile. (At
HIGH a fill that is granted the inlet in the reactions ends, and its gate with it.) A gate that opens with the bypass
volume at Vb or more switches the route to SOFT at once, Vb raised and Vs lowered to what has run (R29, R52; log entry
11). With no write in flight, neither report does anything. The memory is part of the state (log entry 27). -/
def Obligations.RecordWritesEnd : Prop :=
  ∀ (s : State),
    (∀ w ∈ s.rp.inFlight,
      (Answers (exec .recordWriteComplete s) fun t =>
        t.kept =
          { s.kept with
            image := w.figures
            memory := { s.memory with record := w.figures.bytes }
            fill := s.kept.fill.map fun f =>
              { f with gate := if w.gate = true ∧ s.su.gate = .requested then .opened else s.su.gate } }
          ∧ ∀ p ∈ s.rp.pendingWrite, ∃ x ∈ t.rp.inFlight,
              x.figures = figuresNow (p.inProgress.getD w.figures.inProgress) s ∧ x.brine = p.brine
                ∧ (s.hc.level ≠ .high → x.gate = p.gate))
      ∧ (∀ p ∈ s.su.plan, w.gate = true → s.su.gate = .requested → fillValveOpen s = true → s.hc.fillState = .bypass →
          s.hc.switched = false → 0 < p.vs → Steady s → tankReserve s = false →
          let volumeOf (n : Nat) : Nat := n * s.rp.cfg.meterK / 64
          let now := volumeOf s.hc.pulses
          now < s.hc.fillTarget →
          let bypass := now - s.hc.softDone
          let vs := if p.vb < bypass then s.hc.fillTarget - bypass else p.vs
          Answers (exec .recordWriteComplete s) fun t =>
            t.su.gate = .opened
              ∧ if p.vb ≤ bypass then
                  t.su.plan = some { p with vb := bypass, vs := vs }
                    ∧ (if volumeOf (s.hc.pulses + 1) - now ≤ vs then t.hc.fillState = .soft ∧ t.hc.softFrom = s.hc.pulses
                      else t.hc.fillState = .bypass)
                else t.hc.fillState = .bypass ∧ t.su.plan = some p)
      ∧ (∀ r ∈ s.su.regen, w.brine = true → r.seq = .brine → r.phase = .writeWait → Steady s →
          Answers (exec .recordWriteComplete s) fun t =>
            ∃ x ∈ t.su.regen, x.seq = .brine ∧ (x.phase = .inletWait ∨ x.phase = .flowing ∨ x.phase = .stopped))
      ∧ (Answers (exec .recordWriteFailed s) fun t =>
          t.kept = s.kept
            ∧ ∃ x ∈ t.rp.inFlight, (s.hc.level ≠ .high → x.gate = (w.gate || s.rp.pendingWrite.any (·.gate)))
              ∧ x.brine = (w.brine || s.rp.pendingWrite.any (·.brine))
              ∧ x.figures = figuresNow ((s.rp.pendingWrite.bind (·.inProgress)).getD w.figures.inProgress) s))
    ∧ (s.rp.inFlight = none →
        exec .recordWriteComplete s = .next s ∧ exec .recordWriteFailed s = .next s)

end
end

