-- ==== Sys2Proof/Laws/State.lean ====
section
/-! SUPPORT. One lemma per field per update of the state, each true by rfl, so that no proof unfolds a record update. -/

namespace Sys2Proof.Machine

variable (s : State)

/-! ## State.onPins -/

@[simp] theorem State.onPins_pending (f : Pins → Pins) : (s.onPins f).pending = s.pending := rfl
@[simp] theorem State.onPins_now (f : Pins → Pins) : (s.onPins f).now = s.now := rfl
@[simp] theorem State.onPins_freeCount (f : Pins → Pins) : (s.onPins f).freeCount = s.freeCount := rfl
@[simp] theorem State.onPins_pins (f : Pins → Pins) : (s.onPins f).pins = f s.pins := rfl
@[simp] theorem State.onPins_memory (f : Pins → Pins) : (s.onPins f).memory = s.memory := rfl
@[simp] theorem State.onPins_li (f : Pins → Pins) : (s.onPins f).li = s.li := rfl
@[simp] theorem State.onPins_oh (f : Pins → Pins) : (s.onPins f).oh = s.oh := rfl
@[simp] theorem State.onPins_cs (f : Pins → Pins) : (s.onPins f).cs = s.cs := rfl
@[simp] theorem State.onPins_hc (f : Pins → Pins) : (s.onPins f).hc = s.hc := rfl
@[simp] theorem State.onPins_su (f : Pins → Pins) : (s.onPins f).su = s.su := rfl
@[simp] theorem State.onPins_du (f : Pins → Pins) : (s.onPins f).du = s.du := rfl
@[simp] theorem State.onPins_tc (f : Pins → Pins) : (s.onPins f).tc = s.tc := rfl
@[simp] theorem State.onPins_sa (f : Pins → Pins) : (s.onPins f).sa = s.sa := rfl
@[simp] theorem State.onPins_dc (f : Pins → Pins) : (s.onPins f).dc = s.dc := rfl
@[simp] theorem State.onPins_rp (f : Pins → Pins) : (s.onPins f).rp = s.rp := rfl
@[simp] theorem State.onPins_out (f : Pins → Pins) : (s.onPins f).out = s.out := rfl

/-! ## State.onLi -/

@[simp] theorem State.onLi_pending (f : LiState → LiState) : (s.onLi f).pending = s.pending := rfl
@[simp] theorem State.onLi_now (f : LiState → LiState) : (s.onLi f).now = s.now := rfl
@[simp] theorem State.onLi_freeCount (f : LiState → LiState) : (s.onLi f).freeCount = s.freeCount := rfl
@[simp] theorem State.onLi_pins (f : LiState → LiState) : (s.onLi f).pins = s.pins := rfl
@[simp] theorem State.onLi_memory (f : LiState → LiState) : (s.onLi f).memory = s.memory := rfl
@[simp] theorem State.onLi_li (f : LiState → LiState) : (s.onLi f).li = f s.li := rfl
@[simp] theorem State.onLi_oh (f : LiState → LiState) : (s.onLi f).oh = s.oh := rfl
@[simp] theorem State.onLi_cs (f : LiState → LiState) : (s.onLi f).cs = s.cs := rfl
@[simp] theorem State.onLi_hc (f : LiState → LiState) : (s.onLi f).hc = s.hc := rfl
@[simp] theorem State.onLi_su (f : LiState → LiState) : (s.onLi f).su = s.su := rfl
@[simp] theorem State.onLi_du (f : LiState → LiState) : (s.onLi f).du = s.du := rfl
@[simp] theorem State.onLi_tc (f : LiState → LiState) : (s.onLi f).tc = s.tc := rfl
@[simp] theorem State.onLi_sa (f : LiState → LiState) : (s.onLi f).sa = s.sa := rfl
@[simp] theorem State.onLi_dc (f : LiState → LiState) : (s.onLi f).dc = s.dc := rfl
@[simp] theorem State.onLi_rp (f : LiState → LiState) : (s.onLi f).rp = s.rp := rfl
@[simp] theorem State.onLi_out (f : LiState → LiState) : (s.onLi f).out = s.out := rfl

/-! ## State.onOh -/

@[simp] theorem State.onOh_pending (f : OhState → OhState) : (s.onOh f).pending = s.pending := rfl
@[simp] theorem State.onOh_now (f : OhState → OhState) : (s.onOh f).now = s.now := rfl
@[simp] theorem State.onOh_freeCount (f : OhState → OhState) : (s.onOh f).freeCount = s.freeCount := rfl
@[simp] theorem State.onOh_pins (f : OhState → OhState) : (s.onOh f).pins = s.pins := rfl
@[simp] theorem State.onOh_memory (f : OhState → OhState) : (s.onOh f).memory = s.memory := rfl
@[simp] theorem State.onOh_li (f : OhState → OhState) : (s.onOh f).li = s.li := rfl
@[simp] theorem State.onOh_oh (f : OhState → OhState) : (s.onOh f).oh = f s.oh := rfl
@[simp] theorem State.onOh_cs (f : OhState → OhState) : (s.onOh f).cs = s.cs := rfl
@[simp] theorem State.onOh_hc (f : OhState → OhState) : (s.onOh f).hc = s.hc := rfl
@[simp] theorem State.onOh_su (f : OhState → OhState) : (s.onOh f).su = s.su := rfl
@[simp] theorem State.onOh_du (f : OhState → OhState) : (s.onOh f).du = s.du := rfl
@[simp] theorem State.onOh_tc (f : OhState → OhState) : (s.onOh f).tc = s.tc := rfl
@[simp] theorem State.onOh_sa (f : OhState → OhState) : (s.onOh f).sa = s.sa := rfl
@[simp] theorem State.onOh_dc (f : OhState → OhState) : (s.onOh f).dc = s.dc := rfl
@[simp] theorem State.onOh_rp (f : OhState → OhState) : (s.onOh f).rp = s.rp := rfl
@[simp] theorem State.onOh_out (f : OhState → OhState) : (s.onOh f).out = s.out := rfl

/-! ## State.onCs -/

@[simp] theorem State.onCs_pending (f : CsState → CsState) : (s.onCs f).pending = s.pending := rfl
@[simp] theorem State.onCs_now (f : CsState → CsState) : (s.onCs f).now = s.now := rfl
@[simp] theorem State.onCs_freeCount (f : CsState → CsState) : (s.onCs f).freeCount = s.freeCount := rfl
@[simp] theorem State.onCs_pins (f : CsState → CsState) : (s.onCs f).pins = s.pins := rfl
@[simp] theorem State.onCs_memory (f : CsState → CsState) : (s.onCs f).memory = s.memory := rfl
@[simp] theorem State.onCs_li (f : CsState → CsState) : (s.onCs f).li = s.li := rfl
@[simp] theorem State.onCs_oh (f : CsState → CsState) : (s.onCs f).oh = s.oh := rfl
@[simp] theorem State.onCs_cs (f : CsState → CsState) : (s.onCs f).cs = f s.cs := rfl
@[simp] theorem State.onCs_hc (f : CsState → CsState) : (s.onCs f).hc = s.hc := rfl
@[simp] theorem State.onCs_su (f : CsState → CsState) : (s.onCs f).su = s.su := rfl
@[simp] theorem State.onCs_du (f : CsState → CsState) : (s.onCs f).du = s.du := rfl
@[simp] theorem State.onCs_tc (f : CsState → CsState) : (s.onCs f).tc = s.tc := rfl
@[simp] theorem State.onCs_sa (f : CsState → CsState) : (s.onCs f).sa = s.sa := rfl
@[simp] theorem State.onCs_dc (f : CsState → CsState) : (s.onCs f).dc = s.dc := rfl
@[simp] theorem State.onCs_rp (f : CsState → CsState) : (s.onCs f).rp = s.rp := rfl
@[simp] theorem State.onCs_out (f : CsState → CsState) : (s.onCs f).out = s.out := rfl

/-! ## State.onHc -/

@[simp] theorem State.onHc_pending (f : HcState → HcState) : (s.onHc f).pending = s.pending := rfl
@[simp] theorem State.onHc_now (f : HcState → HcState) : (s.onHc f).now = s.now := rfl
@[simp] theorem State.onHc_freeCount (f : HcState → HcState) : (s.onHc f).freeCount = s.freeCount := rfl
@[simp] theorem State.onHc_pins (f : HcState → HcState) : (s.onHc f).pins = s.pins := rfl
@[simp] theorem State.onHc_memory (f : HcState → HcState) : (s.onHc f).memory = s.memory := rfl
@[simp] theorem State.onHc_li (f : HcState → HcState) : (s.onHc f).li = s.li := rfl
@[simp] theorem State.onHc_oh (f : HcState → HcState) : (s.onHc f).oh = s.oh := rfl
@[simp] theorem State.onHc_cs (f : HcState → HcState) : (s.onHc f).cs = s.cs := rfl
@[simp] theorem State.onHc_hc (f : HcState → HcState) : (s.onHc f).hc = f s.hc := rfl
@[simp] theorem State.onHc_su (f : HcState → HcState) : (s.onHc f).su = s.su := rfl
@[simp] theorem State.onHc_du (f : HcState → HcState) : (s.onHc f).du = s.du := rfl
@[simp] theorem State.onHc_tc (f : HcState → HcState) : (s.onHc f).tc = s.tc := rfl
@[simp] theorem State.onHc_sa (f : HcState → HcState) : (s.onHc f).sa = s.sa := rfl
@[simp] theorem State.onHc_dc (f : HcState → HcState) : (s.onHc f).dc = s.dc := rfl
@[simp] theorem State.onHc_rp (f : HcState → HcState) : (s.onHc f).rp = s.rp := rfl
@[simp] theorem State.onHc_out (f : HcState → HcState) : (s.onHc f).out = s.out := rfl

/-! ## State.onSu -/

@[simp] theorem State.onSu_pending (f : SuState → SuState) : (s.onSu f).pending = s.pending := rfl
@[simp] theorem State.onSu_now (f : SuState → SuState) : (s.onSu f).now = s.now := rfl
@[simp] theorem State.onSu_freeCount (f : SuState → SuState) : (s.onSu f).freeCount = s.freeCount := rfl
@[simp] theorem State.onSu_pins (f : SuState → SuState) : (s.onSu f).pins = s.pins := rfl
@[simp] theorem State.onSu_memory (f : SuState → SuState) : (s.onSu f).memory = s.memory := rfl
@[simp] theorem State.onSu_li (f : SuState → SuState) : (s.onSu f).li = s.li := rfl
@[simp] theorem State.onSu_oh (f : SuState → SuState) : (s.onSu f).oh = s.oh := rfl
@[simp] theorem State.onSu_cs (f : SuState → SuState) : (s.onSu f).cs = s.cs := rfl
@[simp] theorem State.onSu_hc (f : SuState → SuState) : (s.onSu f).hc = s.hc := rfl
@[simp] theorem State.onSu_su (f : SuState → SuState) : (s.onSu f).su = f s.su := rfl
@[simp] theorem State.onSu_du (f : SuState → SuState) : (s.onSu f).du = s.du := rfl
@[simp] theorem State.onSu_tc (f : SuState → SuState) : (s.onSu f).tc = s.tc := rfl
@[simp] theorem State.onSu_sa (f : SuState → SuState) : (s.onSu f).sa = s.sa := rfl
@[simp] theorem State.onSu_dc (f : SuState → SuState) : (s.onSu f).dc = s.dc := rfl
@[simp] theorem State.onSu_rp (f : SuState → SuState) : (s.onSu f).rp = s.rp := rfl
@[simp] theorem State.onSu_out (f : SuState → SuState) : (s.onSu f).out = s.out := rfl

/-! ## State.onDu -/

@[simp] theorem State.onDu_pending (f : DuState → DuState) : (s.onDu f).pending = s.pending := rfl
@[simp] theorem State.onDu_now (f : DuState → DuState) : (s.onDu f).now = s.now := rfl
@[simp] theorem State.onDu_freeCount (f : DuState → DuState) : (s.onDu f).freeCount = s.freeCount := rfl
@[simp] theorem State.onDu_pins (f : DuState → DuState) : (s.onDu f).pins = s.pins := rfl
@[simp] theorem State.onDu_memory (f : DuState → DuState) : (s.onDu f).memory = s.memory := rfl
@[simp] theorem State.onDu_li (f : DuState → DuState) : (s.onDu f).li = s.li := rfl
@[simp] theorem State.onDu_oh (f : DuState → DuState) : (s.onDu f).oh = s.oh := rfl
@[simp] theorem State.onDu_cs (f : DuState → DuState) : (s.onDu f).cs = s.cs := rfl
@[simp] theorem State.onDu_hc (f : DuState → DuState) : (s.onDu f).hc = s.hc := rfl
@[simp] theorem State.onDu_su (f : DuState → DuState) : (s.onDu f).su = s.su := rfl
@[simp] theorem State.onDu_du (f : DuState → DuState) : (s.onDu f).du = f s.du := rfl
@[simp] theorem State.onDu_tc (f : DuState → DuState) : (s.onDu f).tc = s.tc := rfl
@[simp] theorem State.onDu_sa (f : DuState → DuState) : (s.onDu f).sa = s.sa := rfl
@[simp] theorem State.onDu_dc (f : DuState → DuState) : (s.onDu f).dc = s.dc := rfl
@[simp] theorem State.onDu_rp (f : DuState → DuState) : (s.onDu f).rp = s.rp := rfl
@[simp] theorem State.onDu_out (f : DuState → DuState) : (s.onDu f).out = s.out := rfl

/-! ## State.onTc -/

@[simp] theorem State.onTc_pending (f : TcState → TcState) : (s.onTc f).pending = s.pending := rfl
@[simp] theorem State.onTc_now (f : TcState → TcState) : (s.onTc f).now = s.now := rfl
@[simp] theorem State.onTc_freeCount (f : TcState → TcState) : (s.onTc f).freeCount = s.freeCount := rfl
@[simp] theorem State.onTc_pins (f : TcState → TcState) : (s.onTc f).pins = s.pins := rfl
@[simp] theorem State.onTc_memory (f : TcState → TcState) : (s.onTc f).memory = s.memory := rfl
@[simp] theorem State.onTc_li (f : TcState → TcState) : (s.onTc f).li = s.li := rfl
@[simp] theorem State.onTc_oh (f : TcState → TcState) : (s.onTc f).oh = s.oh := rfl
@[simp] theorem State.onTc_cs (f : TcState → TcState) : (s.onTc f).cs = s.cs := rfl
@[simp] theorem State.onTc_hc (f : TcState → TcState) : (s.onTc f).hc = s.hc := rfl
@[simp] theorem State.onTc_su (f : TcState → TcState) : (s.onTc f).su = s.su := rfl
@[simp] theorem State.onTc_du (f : TcState → TcState) : (s.onTc f).du = s.du := rfl
@[simp] theorem State.onTc_tc (f : TcState → TcState) : (s.onTc f).tc = f s.tc := rfl
@[simp] theorem State.onTc_sa (f : TcState → TcState) : (s.onTc f).sa = s.sa := rfl
@[simp] theorem State.onTc_dc (f : TcState → TcState) : (s.onTc f).dc = s.dc := rfl
@[simp] theorem State.onTc_rp (f : TcState → TcState) : (s.onTc f).rp = s.rp := rfl
@[simp] theorem State.onTc_out (f : TcState → TcState) : (s.onTc f).out = s.out := rfl

/-! ## State.onSa -/

@[simp] theorem State.onSa_pending (f : SaState → SaState) : (s.onSa f).pending = s.pending := rfl
@[simp] theorem State.onSa_now (f : SaState → SaState) : (s.onSa f).now = s.now := rfl
@[simp] theorem State.onSa_freeCount (f : SaState → SaState) : (s.onSa f).freeCount = s.freeCount := rfl
@[simp] theorem State.onSa_pins (f : SaState → SaState) : (s.onSa f).pins = s.pins := rfl
@[simp] theorem State.onSa_memory (f : SaState → SaState) : (s.onSa f).memory = s.memory := rfl
@[simp] theorem State.onSa_li (f : SaState → SaState) : (s.onSa f).li = s.li := rfl
@[simp] theorem State.onSa_oh (f : SaState → SaState) : (s.onSa f).oh = s.oh := rfl
@[simp] theorem State.onSa_cs (f : SaState → SaState) : (s.onSa f).cs = s.cs := rfl
@[simp] theorem State.onSa_hc (f : SaState → SaState) : (s.onSa f).hc = s.hc := rfl
@[simp] theorem State.onSa_su (f : SaState → SaState) : (s.onSa f).su = s.su := rfl
@[simp] theorem State.onSa_du (f : SaState → SaState) : (s.onSa f).du = s.du := rfl
@[simp] theorem State.onSa_tc (f : SaState → SaState) : (s.onSa f).tc = s.tc := rfl
@[simp] theorem State.onSa_sa (f : SaState → SaState) : (s.onSa f).sa = f s.sa := rfl
@[simp] theorem State.onSa_dc (f : SaState → SaState) : (s.onSa f).dc = s.dc := rfl
@[simp] theorem State.onSa_rp (f : SaState → SaState) : (s.onSa f).rp = s.rp := rfl
@[simp] theorem State.onSa_out (f : SaState → SaState) : (s.onSa f).out = s.out := rfl

/-! ## State.onDc -/

@[simp] theorem State.onDc_pending (f : DcState → DcState) : (s.onDc f).pending = s.pending := rfl
@[simp] theorem State.onDc_now (f : DcState → DcState) : (s.onDc f).now = s.now := rfl
@[simp] theorem State.onDc_freeCount (f : DcState → DcState) : (s.onDc f).freeCount = s.freeCount := rfl
@[simp] theorem State.onDc_pins (f : DcState → DcState) : (s.onDc f).pins = s.pins := rfl
@[simp] theorem State.onDc_memory (f : DcState → DcState) : (s.onDc f).memory = s.memory := rfl
@[simp] theorem State.onDc_li (f : DcState → DcState) : (s.onDc f).li = s.li := rfl
@[simp] theorem State.onDc_oh (f : DcState → DcState) : (s.onDc f).oh = s.oh := rfl
@[simp] theorem State.onDc_cs (f : DcState → DcState) : (s.onDc f).cs = s.cs := rfl
@[simp] theorem State.onDc_hc (f : DcState → DcState) : (s.onDc f).hc = s.hc := rfl
@[simp] theorem State.onDc_su (f : DcState → DcState) : (s.onDc f).su = s.su := rfl
@[simp] theorem State.onDc_du (f : DcState → DcState) : (s.onDc f).du = s.du := rfl
@[simp] theorem State.onDc_tc (f : DcState → DcState) : (s.onDc f).tc = s.tc := rfl
@[simp] theorem State.onDc_sa (f : DcState → DcState) : (s.onDc f).sa = s.sa := rfl
@[simp] theorem State.onDc_dc (f : DcState → DcState) : (s.onDc f).dc = f s.dc := rfl
@[simp] theorem State.onDc_rp (f : DcState → DcState) : (s.onDc f).rp = s.rp := rfl
@[simp] theorem State.onDc_out (f : DcState → DcState) : (s.onDc f).out = s.out := rfl

/-! ## State.onRp -/

@[simp] theorem State.onRp_pending (f : RpState → RpState) : (s.onRp f).pending = s.pending := rfl
@[simp] theorem State.onRp_now (f : RpState → RpState) : (s.onRp f).now = s.now := rfl
@[simp] theorem State.onRp_freeCount (f : RpState → RpState) : (s.onRp f).freeCount = s.freeCount := rfl
@[simp] theorem State.onRp_pins (f : RpState → RpState) : (s.onRp f).pins = s.pins := rfl
@[simp] theorem State.onRp_memory (f : RpState → RpState) : (s.onRp f).memory = s.memory := rfl
@[simp] theorem State.onRp_li (f : RpState → RpState) : (s.onRp f).li = s.li := rfl
@[simp] theorem State.onRp_oh (f : RpState → RpState) : (s.onRp f).oh = s.oh := rfl
@[simp] theorem State.onRp_cs (f : RpState → RpState) : (s.onRp f).cs = s.cs := rfl
@[simp] theorem State.onRp_hc (f : RpState → RpState) : (s.onRp f).hc = s.hc := rfl
@[simp] theorem State.onRp_su (f : RpState → RpState) : (s.onRp f).su = s.su := rfl
@[simp] theorem State.onRp_du (f : RpState → RpState) : (s.onRp f).du = s.du := rfl
@[simp] theorem State.onRp_tc (f : RpState → RpState) : (s.onRp f).tc = s.tc := rfl
@[simp] theorem State.onRp_sa (f : RpState → RpState) : (s.onRp f).sa = s.sa := rfl
@[simp] theorem State.onRp_dc (f : RpState → RpState) : (s.onRp f).dc = s.dc := rfl
@[simp] theorem State.onRp_rp (f : RpState → RpState) : (s.onRp f).rp = f s.rp := rfl
@[simp] theorem State.onRp_out (f : RpState → RpState) : (s.onRp f).out = s.out := rfl

/-! ## State.withOut -/

@[simp] theorem State.withOut_pending (x : Outputs) : (s.withOut x).pending = s.pending := rfl
@[simp] theorem State.withOut_now (x : Outputs) : (s.withOut x).now = s.now := rfl
@[simp] theorem State.withOut_freeCount (x : Outputs) : (s.withOut x).freeCount = s.freeCount := rfl
@[simp] theorem State.withOut_pins (x : Outputs) : (s.withOut x).pins = s.pins := rfl
@[simp] theorem State.withOut_memory (x : Outputs) : (s.withOut x).memory = s.memory := rfl
@[simp] theorem State.withOut_li (x : Outputs) : (s.withOut x).li = s.li := rfl
@[simp] theorem State.withOut_oh (x : Outputs) : (s.withOut x).oh = s.oh := rfl
@[simp] theorem State.withOut_cs (x : Outputs) : (s.withOut x).cs = s.cs := rfl
@[simp] theorem State.withOut_hc (x : Outputs) : (s.withOut x).hc = s.hc := rfl
@[simp] theorem State.withOut_su (x : Outputs) : (s.withOut x).su = s.su := rfl
@[simp] theorem State.withOut_du (x : Outputs) : (s.withOut x).du = s.du := rfl
@[simp] theorem State.withOut_tc (x : Outputs) : (s.withOut x).tc = s.tc := rfl
@[simp] theorem State.withOut_sa (x : Outputs) : (s.withOut x).sa = s.sa := rfl
@[simp] theorem State.withOut_dc (x : Outputs) : (s.withOut x).dc = s.dc := rfl
@[simp] theorem State.withOut_rp (x : Outputs) : (s.withOut x).rp = s.rp := rfl
@[simp] theorem State.withOut_out (x : Outputs) : (s.withOut x).out = x := rfl

/-! ## State.withMemory -/

@[simp] theorem State.withMemory_pending (x : SerialMemory) : (s.withMemory x).pending = s.pending := rfl
@[simp] theorem State.withMemory_now (x : SerialMemory) : (s.withMemory x).now = s.now := rfl
@[simp] theorem State.withMemory_freeCount (x : SerialMemory) : (s.withMemory x).freeCount = s.freeCount := rfl
@[simp] theorem State.withMemory_pins (x : SerialMemory) : (s.withMemory x).pins = s.pins := rfl
@[simp] theorem State.withMemory_memory (x : SerialMemory) : (s.withMemory x).memory = x := rfl
@[simp] theorem State.withMemory_li (x : SerialMemory) : (s.withMemory x).li = s.li := rfl
@[simp] theorem State.withMemory_oh (x : SerialMemory) : (s.withMemory x).oh = s.oh := rfl
@[simp] theorem State.withMemory_cs (x : SerialMemory) : (s.withMemory x).cs = s.cs := rfl
@[simp] theorem State.withMemory_hc (x : SerialMemory) : (s.withMemory x).hc = s.hc := rfl
@[simp] theorem State.withMemory_su (x : SerialMemory) : (s.withMemory x).su = s.su := rfl
@[simp] theorem State.withMemory_du (x : SerialMemory) : (s.withMemory x).du = s.du := rfl
@[simp] theorem State.withMemory_tc (x : SerialMemory) : (s.withMemory x).tc = s.tc := rfl
@[simp] theorem State.withMemory_sa (x : SerialMemory) : (s.withMemory x).sa = s.sa := rfl
@[simp] theorem State.withMemory_dc (x : SerialMemory) : (s.withMemory x).dc = s.dc := rfl
@[simp] theorem State.withMemory_rp (x : SerialMemory) : (s.withMemory x).rp = s.rp := rfl
@[simp] theorem State.withMemory_out (x : SerialMemory) : (s.withMemory x).out = s.out := rfl

/-! ## State.withFreeCount -/

@[simp] theorem State.withFreeCount_pending (x : Nat) : (s.withFreeCount x).pending = s.pending := rfl
@[simp] theorem State.withFreeCount_now (x : Nat) : (s.withFreeCount x).now = s.now := rfl
@[simp] theorem State.withFreeCount_freeCount (x : Nat) : (s.withFreeCount x).freeCount = x := rfl
@[simp] theorem State.withFreeCount_pins (x : Nat) : (s.withFreeCount x).pins = s.pins := rfl
@[simp] theorem State.withFreeCount_memory (x : Nat) : (s.withFreeCount x).memory = s.memory := rfl
@[simp] theorem State.withFreeCount_li (x : Nat) : (s.withFreeCount x).li = s.li := rfl
@[simp] theorem State.withFreeCount_oh (x : Nat) : (s.withFreeCount x).oh = s.oh := rfl
@[simp] theorem State.withFreeCount_cs (x : Nat) : (s.withFreeCount x).cs = s.cs := rfl
@[simp] theorem State.withFreeCount_hc (x : Nat) : (s.withFreeCount x).hc = s.hc := rfl
@[simp] theorem State.withFreeCount_su (x : Nat) : (s.withFreeCount x).su = s.su := rfl
@[simp] theorem State.withFreeCount_du (x : Nat) : (s.withFreeCount x).du = s.du := rfl
@[simp] theorem State.withFreeCount_tc (x : Nat) : (s.withFreeCount x).tc = s.tc := rfl
@[simp] theorem State.withFreeCount_sa (x : Nat) : (s.withFreeCount x).sa = s.sa := rfl
@[simp] theorem State.withFreeCount_dc (x : Nat) : (s.withFreeCount x).dc = s.dc := rfl
@[simp] theorem State.withFreeCount_rp (x : Nat) : (s.withFreeCount x).rp = s.rp := rfl
@[simp] theorem State.withFreeCount_out (x : Nat) : (s.withFreeCount x).out = s.out := rfl

/-! ## State.onCtx -/

@[simp] theorem State.onCtx_pending (f : CycleContext → CycleContext) : (s.onCtx f).pending = s.pending := rfl
@[simp] theorem State.onCtx_now (f : CycleContext → CycleContext) : (s.onCtx f).now = s.now := rfl
@[simp] theorem State.onCtx_freeCount (f : CycleContext → CycleContext) : (s.onCtx f).freeCount = s.freeCount := rfl
@[simp] theorem State.onCtx_pins (f : CycleContext → CycleContext) : (s.onCtx f).pins = s.pins := rfl
@[simp] theorem State.onCtx_memory (f : CycleContext → CycleContext) : (s.onCtx f).memory = s.memory := rfl
@[simp] theorem State.onCtx_li (f : CycleContext → CycleContext) : (s.onCtx f).li = s.li := rfl
@[simp] theorem State.onCtx_oh (f : CycleContext → CycleContext) : (s.onCtx f).oh = s.oh := rfl
@[simp] theorem State.onCtx_cs (f : CycleContext → CycleContext) : (s.onCtx f).cs = { s.cs with ctx := f s.cs.ctx } := rfl
@[simp] theorem State.onCtx_hc (f : CycleContext → CycleContext) : (s.onCtx f).hc = s.hc := rfl
@[simp] theorem State.onCtx_su (f : CycleContext → CycleContext) : (s.onCtx f).su = s.su := rfl
@[simp] theorem State.onCtx_du (f : CycleContext → CycleContext) : (s.onCtx f).du = s.du := rfl
@[simp] theorem State.onCtx_tc (f : CycleContext → CycleContext) : (s.onCtx f).tc = s.tc := rfl
@[simp] theorem State.onCtx_sa (f : CycleContext → CycleContext) : (s.onCtx f).sa = s.sa := rfl
@[simp] theorem State.onCtx_dc (f : CycleContext → CycleContext) : (s.onCtx f).dc = s.dc := rfl
@[simp] theorem State.onCtx_rp (f : CycleContext → CycleContext) : (s.onCtx f).rp = s.rp := rfl
@[simp] theorem State.onCtx_out (f : CycleContext → CycleContext) : (s.onCtx f).out = s.out := rfl

/-! ## onDraft -/

@[simp] theorem onDraft_pending (f : PhaseDraft → PhaseDraft) : (onDraft s f).pending = s.pending := rfl
@[simp] theorem onDraft_now (f : PhaseDraft → PhaseDraft) : (onDraft s f).now = s.now := rfl
@[simp] theorem onDraft_freeCount (f : PhaseDraft → PhaseDraft) : (onDraft s f).freeCount = s.freeCount := rfl
@[simp] theorem onDraft_pins (f : PhaseDraft → PhaseDraft) : (onDraft s f).pins = s.pins := rfl
@[simp] theorem onDraft_memory (f : PhaseDraft → PhaseDraft) : (onDraft s f).memory = s.memory := rfl
@[simp] theorem onDraft_li (f : PhaseDraft → PhaseDraft) : (onDraft s f).li = s.li := rfl
@[simp] theorem onDraft_oh (f : PhaseDraft → PhaseDraft) : (onDraft s f).oh = s.oh := rfl
@[simp] theorem onDraft_cs (f : PhaseDraft → PhaseDraft) : (onDraft s f).cs = s.cs := rfl
@[simp] theorem onDraft_hc (f : PhaseDraft → PhaseDraft) : (onDraft s f).hc = s.hc := rfl
@[simp] theorem onDraft_su (f : PhaseDraft → PhaseDraft) : (onDraft s f).su = s.su := rfl
@[simp] theorem onDraft_du (f : PhaseDraft → PhaseDraft) : (onDraft s f).du = s.du := rfl
@[simp] theorem onDraft_tc (f : PhaseDraft → PhaseDraft) : (onDraft s f).tc = s.tc := rfl
@[simp] theorem onDraft_sa (f : PhaseDraft → PhaseDraft) : (onDraft s f).sa = s.sa := rfl
@[simp] theorem onDraft_dc (f : PhaseDraft → PhaseDraft) : (onDraft s f).dc = s.dc := rfl
@[simp] theorem onDraft_rp (f : PhaseDraft → PhaseDraft) : (onDraft s f).rp = { s.rp with draft := f s.rp.draft } := rfl
@[simp] theorem onDraft_out (f : PhaseDraft → PhaseDraft) : (onDraft s f).out = s.out := rfl

end Sys2Proof.Machine
end

