-- ==== Sys2Proof/Laws/Kept.lean ====
section
/-! SUPPORT. What the reactions of finish leave as it was (State.kept): one lemma per operation, so that a claim about a
field of the Kept record follows the whole of finish by one rewriting. -/

namespace Sys2Proof.Machine

set_option linter.unusedSimpArgs false

variable (s : State)

/-! ## The updates -/

@[simp] theorem onDu_kept (f : DuState → DuState) : (s.onDu f).kept = s.kept := rfl
@[simp] theorem withOut_kept (o : Outputs) : (s.withOut o).kept = s.kept := rfl
@[simp] theorem onDraft_kept (f : PhaseDraft → PhaseDraft) : (onDraft s f).kept = s.kept := rfl

@[simp] theorem onLi_fillFigures (f : LiState → LiState) : (s.onLi f).fillFigures = s.fillFigures := rfl
@[simp] theorem onOh_fillFigures (f : OhState → OhState) : (s.onOh f).fillFigures = s.fillFigures := rfl
@[simp] theorem onTc_fillFigures (f : TcState → TcState) : (s.onTc f).fillFigures = s.fillFigures := rfl
@[simp] theorem onSa_fillFigures (f : SaState → SaState) : (s.onSa f).fillFigures = s.fillFigures := rfl
@[simp] theorem onDc_fillFigures (f : DcState → DcState) : (s.onDc f).fillFigures = s.fillFigures := rfl
@[simp] theorem onRp_fillFigures (f : RpState → RpState) : (s.onRp f).fillFigures = s.fillFigures := rfl

@[simp] theorem onCs_kept (f : CsState → CsState)
    (h : ((f s.cs).groupCounter, (f s.cs).ctx.fill, (f s.cs).ctx.firstFault, (f s.cs).ctx.owner, (f s.cs).ctx.startTag,
        (f s.cs).ctx.serviceReturn)
      = (s.cs.groupCounter, s.cs.ctx.fill, s.cs.ctx.firstFault, s.cs.ctx.owner, s.cs.ctx.startTag,
        s.cs.ctx.serviceReturn)) : (s.onCs f).kept = s.kept := by
  simp only [Prod.mk.injEq] at h
  simp [State.kept, State.fillFigures, h]

@[simp] theorem onCtx_kept (f : CycleContext → CycleContext)
    (h : ((f s.cs.ctx).fill, (f s.cs.ctx).firstFault, (f s.cs.ctx).owner, (f s.cs.ctx).startTag,
        (f s.cs.ctx).serviceReturn)
      = (s.cs.ctx.fill, s.cs.ctx.firstFault, s.cs.ctx.owner, s.cs.ctx.startTag, s.cs.ctx.serviceReturn)) :
    (s.onCtx f).kept = s.kept := onCs_kept s _ (by simpa using h)

@[simp] theorem onLi_kept (f : LiState → LiState)
    (h : ((f s.li).line, (f s.li).own, (f s.li).receive, (f s.li).answers, (f s.li).sending, (f s.li).extraWait,
        (f s.li).conflict, (f s.li).ackDriven)
      = (s.li.line, s.li.own, s.li.receive, s.li.answers, s.li.sending, s.li.extraWait, s.li.conflict, s.li.ackDriven)) :
    (s.onLi f).kept = s.kept := by
  simp only [Prod.mk.injEq] at h
  simp [State.kept, h]

@[simp] theorem onOh_kept (f : OhState → OhState)
    (h : ((f s.oh).reportIndex, (f s.oh).reportPart) = (s.oh.reportIndex, s.oh.reportPart)) :
    (s.onOh f).kept = s.kept := by
  simp only [Prod.mk.injEq] at h
  simp [State.kept, h]

@[simp] theorem onHc_kept (f : HcState → HcState)
    (h : ((f s.hc).level, (f s.hc).leakLatch, (f s.hc).divPos) = (s.hc.level, s.hc.leakLatch, s.hc.divPos)) :
    (s.onHc f).kept = s.kept := by
  simp only [Prod.mk.injEq] at h
  simp [State.kept, State.fillFigures, h]

@[simp] theorem onSu_kept (f : SuState → SuState)
    (h : ((f s.su).account, (f s.su).regenCount, (f s.su).sample, (f s.su).hin, (f s.su).cellFault, (f s.su).rearm,
        (f s.su).predicted, (f s.su).gate, (f s.su).regenerating)
      = (s.su.account, s.su.regenCount, s.su.sample, s.su.hin, s.su.cellFault, s.su.rearm, s.su.predicted, s.su.gate,
        s.su.regenerating)) : (s.onSu f).kept = s.kept := by
  simp only [Prod.mk.injEq] at h
  simp [State.kept, State.fillFigures, h]

@[simp] theorem onTc_kept (f : TcState → TcState)
    (h : ((f s.tc).tub, (f s.tc).badRun, (f s.tc).faulted, (f s.tc).overtemp, (f s.tc).disabled, (f s.tc).sensorReported)
      = (s.tc.tub, s.tc.badRun, s.tc.faulted, s.tc.overtemp, s.tc.disabled, s.tc.sensorReported)) : (s.onTc f).kept = s.kept := by
  simp only [Prod.mk.injEq] at h
  simp [State.kept, h]

@[simp] theorem onSa_kept (f : SaState → SaState)
    (h : ((f s.sa).view, (f s.sa).overflow, (f s.sa).settle, (f s.sa).refreshTimer, (f s.sa).announced, (f s.sa).shed)
      = (s.sa.view, s.sa.overflow, s.sa.settle, s.sa.refreshTimer, s.sa.announced, s.sa.shed)) :
    (s.onSa f).kept = s.kept := by
  simp only [Prod.mk.injEq] at h
  simp [State.kept, h]

@[simp] theorem onDc_kept (f : DcState → DcState) (h : (f s.dc).door = s.dc.door) : (s.onDc f).kept = s.kept := by
  simp [State.kept, h]

@[simp] theorem onRp_kept (f : RpState → RpState)
    (h : ((f s.rp).configured, (f s.rp).cfg, (f s.rp).image, (f s.rp).energy)
      = (s.rp.configured, s.rp.cfg, s.rp.image, s.rp.energy)) : (s.onRp f).kept = s.kept := by
  simp only [Prod.mk.injEq] at h
  simp [State.kept, h]

/-! ## The operations -/

@[simp] theorem ite_kept (c : Prop) [Decidable c] (a b : State) :
    (if c then a else b).kept = if c then a.kept else b.kept := apply_ite State.kept c a b

@[simp] theorem writeSense_kept (x : Nat) (y : Sense) (z : Nat) : (writeSense x y z s).kept = s.kept := by
  unfold writeSense
  simp

@[simp] theorem complete_kept (c : Completion) : (complete c s).kept = s.kept := by
  unfold complete
  simp

@[simp] theorem completeToOwner_kept (t : Nat) (k : CompletionKind) (o : Nat) (y : Sense) (d : List Nat) : (completeToOwner t k o y d s).kept = s.kept := by
  unfold completeToOwner
  split <;> simp

@[simp] theorem beginWrite_kept : (beginWrite s).kept = s.kept := by
  unfold beginWrite
  split <;> simp

@[simp] theorem requestWrite_kept (a : Option Bool) (b c : Bool) : (requestWrite a b c s).kept = s.kept := by
  unfold requestWrite
  simp

@[simp] theorem addReport_kept (e : ReportEntry) : (addReport e s).kept = s.kept := by
  unfold addReport
  apply onRp_kept
  split <;> rfl

@[simp] theorem raiseCondition_kept (c : Cause) : (raiseCondition c s).kept = s.kept := by
  unfold raiseCondition
  simp

@[simp] theorem setWant_kept : (setWant s).kept = s.kept := rfl

@[simp] theorem placeSupply_kept (x : SupplyFrame) : (placeSupply x s).kept = s.kept := by
  unfold placeSupply
  simp

@[simp] theorem emptySlot_kept : (emptySlot s).kept = s.kept := by
  unfold emptySlot
  simp

@[simp] theorem removeClaim_kept : (removeClaim s).kept = s.kept := by
  unfold removeClaim
  simp

@[simp] theorem deferWaiting_kept : (deferWaiting s).kept = s.kept := by
  unfold deferWaiting
  simp

@[simp] theorem withdrawClaim_kept : (withdrawClaim s).kept = s.kept := by
  unfold withdrawClaim
  simp

@[simp] theorem testClaim_kept : (testClaim s).kept = s.kept := by
  unfold testClaim
  split
  · split <;> simp
  · rfl

@[simp] theorem yieldNotice_kept (r : Loads) : (yieldNotice r s).kept = s.kept := by
  unfold yieldNotice
  simp

@[simp] theorem grantLoads_kept (r : Loads) : (grantLoads r s).kept = s.kept := by
  unfold grantLoads
  simp

@[simp] theorem tellStatuses_kept (t : Statuses) : (tellStatuses t s).kept = s.kept := by
  unfold tellStatuses
  simp

@[simp] theorem claimWalk_kept : (claimWalk s).kept = s.kept := by
  unfold claimWalk
  split <;> simp

@[simp] theorem lowerNotice_kept (again : Bool) : (lowerNotice again s).kept = s.kept := by
  unfold lowerNotice
  simp

@[simp] theorem supplyRound_kept : (supplyRound s).kept = s.kept := by
  unfold supplyRound
  simp

@[simp] theorem askAgain_kept : (askAgain s).kept = s.kept := by
  unfold askAgain
  simp

@[simp] theorem releaseInlet_kept : (releaseInlet s).kept = s.kept := by
  unfold releaseInlet
  simp

@[simp] theorem routeSwitch_kept : (routeSwitch s).kept = s.kept := by
  unfold routeSwitch
  split
  · extract_lets v
    split
    · split <;> rfl
    · rfl
  · rfl

@[simp] theorem startFill_kept (v : Nat) : (startFill v s).kept = s.kept := by
  unfold startFill
  simp

@[simp] theorem grantFill_kept : (grantFill s).kept = s.kept := by
  unfold grantFill
  simp

@[simp] theorem startDrain_kept (w : DrainFor) : (startDrain w s).kept = s.kept := by
  unfold startDrain
  simp

@[simp] theorem moveDiverter_kept (w : DivPos) : (moveDiverter w s).kept = s.kept := by
  unfold moveDiverter
  simp

@[simp] theorem setPattern_kept (p : SprayPattern) : (setPattern p s).kept = s.kept := by
  unfold setPattern
  simp

@[simp] theorem onTank_kept (r : Reservoir) (g : Tank → Tank) : (onTank r g s).kept = s.kept := by
  unfold onTank
  split <;> simp

@[simp] theorem onJob_kept (g : DoseJob → DoseJob) : (onJob g s).kept = s.kept := by
  unfold onJob
  simp

@[simp] theorem refill_kept (r : Reservoir) : (refill r s).kept = s.kept := by
  unfold refill
  simp

@[simp] theorem takeHeld_kept (r : Reservoir) : (takeHeld r s).kept = s.kept := by
  unfold takeHeld
  simp

@[simp] theorem startHoldTimer_kept : (startHoldTimer s).kept = s.kept := by
  unfold startHoldTimer
  simp

@[simp] theorem reportDoseEnd_kept (j : DoseJob) (e : DoseEnd) : (reportDoseEnd j e s).kept = s.kept := by
  unfold reportDoseEnd
  split <;> simp

@[simp] theorem endJob_kept (e : DoseEnd) : (endJob e s).kept = s.kept := by
  unfold endJob
  split <;> simp

@[simp] theorem startJob_kept (r : Reservoir) : (startJob r s).kept = s.kept := by
  unfold startJob
  simp

@[simp] theorem beginStroke_kept (j : DoseJob) : (beginStroke j s).kept = s.kept := by
  unfold beginStroke
  simp

@[simp] theorem syncDose_kept : (syncDose s).kept = s.kept := by
  unfold syncDose
  simp

@[simp] theorem serveDose_kept : (serveDose s).kept = s.kept := by
  unfold serveDose
  split <;> simp

@[simp] theorem onRegen_kept (g : RegenRecord → RegenRecord) : (onRegen g s).kept = s.kept := by
  unfold onRegen
  simp

@[simp] theorem startBrine_kept : (startBrine s).kept = s.kept := by
  unfold startBrine
  simp

@[simp] theorem startRinse_kept (q : SeqState) : (startRinse q s).kept = s.kept := by
  unfold startRinse
  simp

@[simp] theorem placeRegen_kept (p : Placement) (a b : Nat) : (placeRegen p a b s).kept = s.kept := by
  unfold placeRegen
  simp

@[simp] theorem syncRegen_kept : (syncRegen s).kept = s.kept := by
  unfold syncRegen
  split <;> simp

@[simp] theorem grantStep_kept (r : RegenRecord) : (grantStep r s).kept = s.kept := by
  unfold grantStep
  simp

@[simp] theorem grantInlet_kept : (grantInlet s).kept = s.kept := by
  unfold grantInlet
  repeat' split
  all_goals rfl

@[simp] theorem onRecord_kept (g : DryRecord → DryRecord) : (onRecord g s).kept = s.kept := by
  unfold onRecord
  simp

@[simp] theorem setProvisional_kept : (setProvisional s).kept = s.kept := by
  unfold setProvisional
  simp

@[simp] theorem stillArm_kept : (stillArm s).kept = s.kept := by
  unfold stillArm
  simp

@[simp] theorem startDrying_kept (p : Option DryingPart) : (startDrying p s).kept = s.kept := by
  unfold startDrying
  simp

@[simp] theorem startOpening_kept : (startOpening s).kept = s.kept := by
  unfold startOpening
  simp

@[simp] theorem startClosing_kept (d : ClosingTo) (e : Bool) : (startClosing d e s).kept = s.kept := by
  unfold startClosing
  simp

@[simp] theorem enterVentClosed_kept (e : Bool) : (enterVentClosed e s).kept = s.kept := by
  unfold enterVentClosed
  simp

@[simp] theorem parkArm_kept : (parkArm s).kept = s.kept := by
  unfold parkArm
  simp

@[simp] theorem resumeOpening_kept : (resumeOpening s).kept = s.kept := by
  unfold resumeOpening
  apply onDc_kept
  split <;> rfl

@[simp] theorem serveArm_kept : (serveArm s).kept = s.kept := by
  unfold serveArm
  split <;> simp

@[simp] theorem endCycle_kept : (endCycle s).kept = s.kept := by
  unfold endCycle
  simp

@[simp] theorem voidCompletion_kept (a b : Nat) : (voidCompletion a b s).kept = s.kept := by
  unfold voidCompletion
  simp

theorem foldl_kept {α : Type} (f : State → α → State) (h : ∀ s a, (f s a).kept = s.kept) (l : List α) :
    ∀ s : State, (l.foldl f s).kept = s.kept := by
  induction l with
  | nil => intro s; rfl
  | cons a l ih => intro s; simp [ih, h]

@[simp] theorem takeUngrouped_kept (k : Nat) : (takeUngrouped k s).kept = s.kept := by
  unfold takeUngrouped
  simp [foldl_kept]

@[simp] theorem takeGroup_kept (k : Nat) (g : AmendGroup) : (takeGroup k s g).kept = s.kept := by
  unfold takeGroup
  split
  · rfl
  · dsimp only
    split
    · rfl
    · exact (voidCompletion_kept _ _ _).trans rfl

@[simp] theorem remark_kept : (remark s).kept = s.kept := by
  unfold remark
  simp

@[simp] theorem takeAmendments_kept (k : Nat) : (takeAmendments k s).kept = s.kept := by
  unfold takeAmendments
  simp [foldl_kept]

@[simp] theorem startFigures_kept (t : Nat) : (startFigures t s).kept = s.kept := by
  unfold startFigures
  simp

@[simp] theorem enterPhase_kept (k : Nat) : (enterPhase k s).kept = s.kept := by
  unfold enterPhase
  extract_lets s1 s2
  have h : s2.kept = s.kept := (takeAmendments_kept _ _).trans rfl
  split
  · simp only [ite_kept, startDrying_kept, startFill_kept]
    split <;>
      (refine Eq.trans (onCtx_kept _ _ rfl) ?_
       simp only [ite_kept, startFigures_kept, setProvisional_kept, ite_self]
       exact h)
  · exact h

@[simp] theorem insertRinse_kept (k : Nat) (r : PhaseRecord) : (insertRinse k r s).kept = s.kept := by
  unfold insertRinse
  simp

@[simp] theorem exitPhase_kept : (exitPhase s).kept = s.kept := by
  unfold exitPhase
  simp
  repeat' split
  all_goals simp

@[simp] theorem beginHold_kept : (beginHold s).kept = s.kept := (startHoldTimer_kept _).trans rfl

@[simp] theorem beginHeat_kept : (beginHeat s).kept = s.kept := by
  unfold beginHeat
  extract_lets s1 s2
  have h : s2.kept = s.kept := rfl
  split
  · exact (beginHold_kept _).trans h
  · split
    · exact (beginHold_kept _).trans h
    · exact h

@[simp] theorem advanceFill_kept : (advanceFill s).kept = s.kept := by
  unfold advanceFill
  split
  · simp only [ite_kept, beginHeat_kept, beginHold_kept, ite_self]
    split <;> simp
  · rfl

/-! ### The end of a fill at HIGH, where the figures of the fill are not kept -/

theorem onCtx_kept_high (f : CycleContext → CycleContext) (hl : s.hc.level = .high)
    (h : ((f s.cs.ctx).firstFault, (f s.cs.ctx).owner, (f s.cs.ctx).startTag, (f s.cs.ctx).serviceReturn)
      = (s.cs.ctx.firstFault, s.cs.ctx.owner, s.cs.ctx.startTag, s.cs.ctx.serviceReturn)) :
    (s.onCtx f).kept = s.kept := by
  simp only [Prod.mk.injEq] at h
  simp [State.kept, State.fillFigures, hl, h]

theorem onSu_kept_high (f : SuState → SuState) (hl : s.hc.level = .high)
    (h : ((f s.su).account, (f s.su).regenCount, (f s.su).rearm, (f s.su).regenerating)
      = (s.su.account, s.su.regenCount, s.su.rearm, s.su.regenerating)) : (s.onSu f).kept = s.kept := by
  simp only [Prod.mk.injEq] at h
  simp [State.kept, State.fillFigures, hl, h]

theorem formHardness_kept_high (hl : s.hc.level = .high) : (formHardness s).kept = s.kept := by
  unfold formHardness
  split
  · exact onSu_kept_high _ _ hl rfl
  · rfl

@[simp] theorem forgetGateWrites_kept : (forgetGateWrites s).kept = s.kept := rfl

theorem closeFill_kept_high (hl : s.hc.level = .high) : (closeFill s).kept = s.kept := by
  unfold closeFill
  extract_lets s1 f charged fault s2 s3 s4 s5 s6 s7 s8
  have h1 : s1.kept = s.kept := formHardness_kept_high s hl
  have l1 : s1.hc.level = .high := (congrArg Kept.level h1).trans hl
  have h2 : s2.kept = s1.kept := onCtx_kept_high _ _ l1 rfl
  have h4 : s4.kept = s2.kept := rfl
  have h5 : s5.kept = s4.kept := by simp [s5]
  have l5 : s5.hc.level = .high := (congrArg Kept.level (h5.trans (h4.trans h2))).trans l1
  have h6 : s6.kept = s5.kept := onSu_kept_high _ _ l5 rfl
  have h7 : s7.kept = s6.kept := by simp [s7]
  have h8 : s8.kept = s7.kept := by simp [s8]
  exact (onHc_kept _ _ rfl).trans (h8.trans (h7.trans (h6.trans (h5.trans (h4.trans (h2.trans h1))))))

theorem endFill_kept_high (hl : s.hc.level = .high) : (endFill s).kept = s.kept := by
  unfold endFill
  simp [closeFill_kept_high s hl]

@[simp] theorem endFullFill_kept : (endFullFill s).kept = s.kept := by
  unfold endFullFill
  split
  · rename_i h
    simp only [Bool.and_eq_true, beq_iff_eq] at h
    exact endFill_kept_high s h.2
  · rfl

@[simp] theorem cutPhase_kept : (cutPhase s).kept = s.kept := by
  unfold cutPhase
  dsimp only
  refine (startDrain_kept _ _).trans ?_
  refine Eq.trans (b := (match (currentRecord s).any (·.soil), s.hc.turbCount, s.hc.turbClass with
    | true, _ + 1, some c => s.onCtx fun x => { x with soilClass := c }
    | _, _, _ => s : State).kept) rfl ?_
  split <;> rfl

@[simp] theorem advanceDrain_kept : (advanceDrain s).kept = s.kept := by
  unfold advanceDrain
  extract_lets s1
  have h : s1.kept = s.kept := rfl
  split
  · exact ((placeRegen_kept _ _ _ _).trans rfl).trans h
  · exact (exitPhase_kept _).trans h

@[simp] theorem endDrying_kept (o : DoorOutcome) : (endDrying o s).kept = s.kept := by
  unfold endDrying
  extract_lets s1 reopens plan fan s2
  have h : s2.kept = s.kept := rfl
  split
  · exact (exitPhase_kept _).trans h
  · exact h

@[simp] theorem endAjarOrLatched_kept : (endAjarOrLatched s).kept = s.kept := by
  unfold endAjarOrLatched
  simp

@[simp] theorem endVent_kept : (endVent s).kept = s.kept := by
  unfold endVent
  split
  · dsimp only
    split <;> repeat' split
    all_goals first
      | rfl
      | simp only [startClosing_kept, endAjarOrLatched_kept, onRecord_kept]
      | exact (endDrying_kept _ _).trans rfl
  · rfl

@[simp] theorem endCondense_kept : (endCondense s).kept = s.kept := by
  unfold endCondense
  split
  · simp only [ite_kept, endVent_kept, startOpening_kept, enterVentClosed_kept, ite_self]
    rfl
  · rfl

@[simp] theorem finishClosing_kept : (finishClosing s).kept = s.kept := by
  unfold finishClosing
  split
  · dsimp only
    split
    · split
      · exact (enterVentClosed_kept _ _).trans rfl
      · exact (endDrying_kept _ _).trans rfl
      · rfl
    · rfl
  · rfl

@[simp] theorem reopen_kept : (reopen s).kept = s.kept := by
  unfold reopen
  simp

@[simp] theorem motionLoss_kept : (motionLoss s).kept = s.kept := by
  unfold motionLoss
  simp
  repeat' split
  all_goals simp

@[simp] theorem motionGain_kept : (motionGain s).kept = s.kept := by
  unfold motionGain
  simp

@[simp] theorem evaluateMotion_kept : (evaluateMotion s).kept = s.kept := by
  unfold evaluateMotion
  simp

@[simp] theorem onService_kept (g : Service → Service) : (onService g s).kept = s.kept := by
  unfold onService
  simp

@[simp] theorem serveServiceStroke_kept : (serveServiceStroke s).kept = s.kept := by
  unfold serveServiceStroke
  split <;> simp

@[simp] theorem serveService_kept : (serveService s).kept = s.kept := by
  unfold serveService
  simp

@[simp] theorem syncHold_kept : (syncHold s).kept = s.kept := by
  unfold syncHold
  simp

@[simp] theorem syncReason_kept : (syncReason s).kept = s.kept := by
  unfold syncReason
  simp

@[simp] theorem syncPause_kept : (syncPause s).kept = s.kept := by
  unfold syncPause
  simp

@[simp] theorem syncSupply_kept : (syncSupply s).kept = s.kept := by
  unfold syncSupply
  simp

@[simp] theorem takeHeldEnds_kept : (takeHeldEnds s).kept = s.kept := by
  unfold takeHeldEnds
  simp

@[simp] theorem endZeroHold_kept : (endZeroHold s).kept = s.kept := by
  unfold endZeroHold
  simp

@[simp] theorem endZeroCondense_kept : (endZeroCondense s).kept = s.kept := by
  unfold endZeroCondense
  simp

@[simp] theorem startFinalDrain_kept : (startFinalDrain s).kept = s.kept := by
  unfold startFinalDrain
  simp

@[simp] theorem endWindDown_kept : (endWindDown s).kept = s.kept := by
  unfold endWindDown
  simp

@[simp] theorem serveCirc_kept : (serveCirc s).kept = s.kept := by
  unfold serveCirc
  apply onHc_kept
  split <;> rfl

@[simp] theorem serveGrants_kept : (serveGrants s).kept = s.kept := by
  unfold serveGrants
  simp

@[simp] theorem reactCycle_kept : (reactCycle s).kept = s.kept := by
  unfold reactCycle
  simp

@[simp] theorem reactWork_kept : (reactWork s).kept = s.kept := by
  unfold reactWork
  simp

@[simp] theorem settlePass_kept : (settlePass s).kept = s.kept := by
  unfold settlePass
  simp

@[simp] theorem settleAll_kept : (settleAll s).kept = s.kept := by
  unfold settleAll
  simp

@[simp] theorem driveOutputs_kept : (driveOutputs s).kept = s.kept := by
  unfold driveOutputs
  simp

@[simp] theorem finish_kept : (finish s).kept = s.kept := by
  unfold finish
  simp

/-! ## Field by field, after finish -/

theorem kept_pending {s t : State} (h : t.kept = s.kept) : t.pending = s.pending := congrArg Kept.pending h
@[simp] theorem finish_pending : (finish s).pending = s.pending := kept_pending (finish_kept s)
theorem kept_now {s t : State} (h : t.kept = s.kept) : t.now = s.now := congrArg Kept.now h
@[simp] theorem finish_now : (finish s).now = s.now := kept_now (finish_kept s)
theorem kept_freeCount {s t : State} (h : t.kept = s.kept) : t.freeCount = s.freeCount := congrArg Kept.freeCount h
@[simp] theorem finish_freeCount : (finish s).freeCount = s.freeCount := kept_freeCount (finish_kept s)
theorem kept_pins {s t : State} (h : t.kept = s.kept) : t.pins = s.pins := congrArg Kept.pins h
@[simp] theorem finish_pins : (finish s).pins = s.pins := kept_pins (finish_kept s)
theorem kept_memory {s t : State} (h : t.kept = s.kept) : t.memory = s.memory := congrArg Kept.memory h
@[simp] theorem finish_memory : (finish s).memory = s.memory := kept_memory (finish_kept s)
theorem kept_line {s t : State} (h : t.kept = s.kept) : t.li.line = s.li.line := congrArg Kept.line h
@[simp] theorem finish_line : (finish s).li.line = s.li.line := kept_line (finish_kept s)
theorem kept_own {s t : State} (h : t.kept = s.kept) : t.li.own = s.li.own := congrArg Kept.own h
@[simp] theorem finish_own : (finish s).li.own = s.li.own := kept_own (finish_kept s)
theorem kept_receive {s t : State} (h : t.kept = s.kept) : t.li.receive = s.li.receive := congrArg Kept.receive h
@[simp] theorem finish_receive : (finish s).li.receive = s.li.receive := kept_receive (finish_kept s)
theorem kept_answers {s t : State} (h : t.kept = s.kept) : t.li.answers = s.li.answers := congrArg Kept.answers h
@[simp] theorem finish_answers : (finish s).li.answers = s.li.answers := kept_answers (finish_kept s)
theorem kept_sending {s t : State} (h : t.kept = s.kept) : t.li.sending = s.li.sending := congrArg Kept.sending h
@[simp] theorem finish_sending : (finish s).li.sending = s.li.sending := kept_sending (finish_kept s)
theorem kept_extraWait {s t : State} (h : t.kept = s.kept) : t.li.extraWait = s.li.extraWait := congrArg Kept.extraWait h
@[simp] theorem finish_extraWait : (finish s).li.extraWait = s.li.extraWait := kept_extraWait (finish_kept s)
theorem kept_conflict {s t : State} (h : t.kept = s.kept) : t.li.conflict = s.li.conflict := congrArg Kept.conflict h
@[simp] theorem finish_conflict : (finish s).li.conflict = s.li.conflict := kept_conflict (finish_kept s)
theorem kept_ackDriven {s t : State} (h : t.kept = s.kept) : t.li.ackDriven = s.li.ackDriven := congrArg Kept.ackDriven h
@[simp] theorem finish_ackDriven : (finish s).li.ackDriven = s.li.ackDriven := kept_ackDriven (finish_kept s)
theorem kept_reportIndex {s t : State} (h : t.kept = s.kept) : t.oh.reportIndex = s.oh.reportIndex := congrArg Kept.reportIndex h
@[simp] theorem finish_reportIndex : (finish s).oh.reportIndex = s.oh.reportIndex := kept_reportIndex (finish_kept s)
theorem kept_reportPart {s t : State} (h : t.kept = s.kept) : t.oh.reportPart = s.oh.reportPart := congrArg Kept.reportPart h
@[simp] theorem finish_reportPart : (finish s).oh.reportPart = s.oh.reportPart := kept_reportPart (finish_kept s)
theorem kept_level {s t : State} (h : t.kept = s.kept) : t.hc.level = s.hc.level := congrArg Kept.level h
@[simp] theorem finish_level : (finish s).hc.level = s.hc.level := kept_level (finish_kept s)
theorem kept_leakLatch {s t : State} (h : t.kept = s.kept) : t.hc.leakLatch = s.hc.leakLatch := congrArg Kept.leakLatch h
@[simp] theorem finish_leakLatch : (finish s).hc.leakLatch = s.hc.leakLatch := kept_leakLatch (finish_kept s)
theorem kept_divPos {s t : State} (h : t.kept = s.kept) : t.hc.divPos = s.hc.divPos := congrArg Kept.divPos h
@[simp] theorem finish_divPos : (finish s).hc.divPos = s.hc.divPos := kept_divPos (finish_kept s)
theorem kept_account {s t : State} (h : t.kept = s.kept) : t.su.account = s.su.account := congrArg Kept.account h
@[simp] theorem finish_account : (finish s).su.account = s.su.account := kept_account (finish_kept s)
theorem kept_regenCount {s t : State} (h : t.kept = s.kept) : t.su.regenCount = s.su.regenCount := congrArg Kept.regenCount h
@[simp] theorem finish_regenCount : (finish s).su.regenCount = s.su.regenCount := kept_regenCount (finish_kept s)
theorem kept_tub {s t : State} (h : t.kept = s.kept) : t.tc.tub = s.tc.tub := congrArg Kept.tub h
@[simp] theorem finish_tub : (finish s).tc.tub = s.tc.tub := kept_tub (finish_kept s)
theorem kept_badRun {s t : State} (h : t.kept = s.kept) : t.tc.badRun = s.tc.badRun := congrArg Kept.badRun h
@[simp] theorem finish_badRun : (finish s).tc.badRun = s.tc.badRun := kept_badRun (finish_kept s)
theorem kept_faulted {s t : State} (h : t.kept = s.kept) : t.tc.faulted = s.tc.faulted := congrArg Kept.faulted h
@[simp] theorem finish_faulted : (finish s).tc.faulted = s.tc.faulted := kept_faulted (finish_kept s)
theorem kept_overtemp {s t : State} (h : t.kept = s.kept) : t.tc.overtemp = s.tc.overtemp := congrArg Kept.overtemp h
@[simp] theorem finish_overtemp : (finish s).tc.overtemp = s.tc.overtemp := kept_overtemp (finish_kept s)
theorem kept_view {s t : State} (h : t.kept = s.kept) : t.sa.view = s.sa.view := congrArg Kept.view h
@[simp] theorem finish_view : (finish s).sa.view = s.sa.view := kept_view (finish_kept s)
theorem kept_overflow {s t : State} (h : t.kept = s.kept) : t.sa.overflow = s.sa.overflow := congrArg Kept.overflow h
@[simp] theorem finish_overflow : (finish s).sa.overflow = s.sa.overflow := kept_overflow (finish_kept s)
theorem kept_settle {s t : State} (h : t.kept = s.kept) : t.sa.settle = s.sa.settle := congrArg Kept.settle h
@[simp] theorem finish_settle : (finish s).sa.settle = s.sa.settle := kept_settle (finish_kept s)
theorem kept_refreshTimer {s t : State} (h : t.kept = s.kept) : t.sa.refreshTimer = s.sa.refreshTimer := congrArg Kept.refreshTimer h
@[simp] theorem finish_refreshTimer : (finish s).sa.refreshTimer = s.sa.refreshTimer := kept_refreshTimer (finish_kept s)
theorem kept_announced {s t : State} (h : t.kept = s.kept) : t.sa.announced = s.sa.announced := congrArg Kept.announced h
@[simp] theorem finish_announced : (finish s).sa.announced = s.sa.announced := kept_announced (finish_kept s)
theorem kept_shed {s t : State} (h : t.kept = s.kept) : t.sa.shed = s.sa.shed := congrArg Kept.shed h
@[simp] theorem finish_shed : (finish s).sa.shed = s.sa.shed := kept_shed (finish_kept s)
theorem kept_door {s t : State} (h : t.kept = s.kept) : t.dc.door = s.dc.door := congrArg Kept.door h
@[simp] theorem finish_door : (finish s).dc.door = s.dc.door := kept_door (finish_kept s)
theorem kept_configured {s t : State} (h : t.kept = s.kept) : t.rp.configured = s.rp.configured := congrArg Kept.configured h
@[simp] theorem finish_configured : (finish s).rp.configured = s.rp.configured := kept_configured (finish_kept s)
theorem kept_cfg {s t : State} (h : t.kept = s.kept) : t.rp.cfg = s.rp.cfg := congrArg Kept.cfg h
@[simp] theorem finish_cfg : (finish s).rp.cfg = s.rp.cfg := kept_cfg (finish_kept s)
theorem kept_image {s t : State} (h : t.kept = s.kept) : t.rp.image = s.rp.image := congrArg Kept.image h
@[simp] theorem finish_image : (finish s).rp.image = s.rp.image := kept_image (finish_kept s)
theorem kept_energy {s t : State} (h : t.kept = s.kept) : t.rp.energy = s.rp.energy := congrArg Kept.energy h
@[simp] theorem finish_energy : (finish s).rp.energy = s.rp.energy := kept_energy (finish_kept s)
theorem kept_rearm {s t : State} (h : t.kept = s.kept) : t.su.rearm = s.su.rearm := congrArg Kept.rearm h
@[simp] theorem finish_rearm : (finish s).su.rearm = s.su.rearm := kept_rearm (finish_kept s)
theorem kept_regenerating {s t : State} (h : t.kept = s.kept) : t.su.regenerating = s.su.regenerating := congrArg Kept.regenerating h
@[simp] theorem finish_regenerating : (finish s).su.regenerating = s.su.regenerating := kept_regenerating (finish_kept s)
theorem kept_disabled {s t : State} (h : t.kept = s.kept) : t.tc.disabled = s.tc.disabled := congrArg Kept.disabled h
@[simp] theorem finish_disabled : (finish s).tc.disabled = s.tc.disabled := kept_disabled (finish_kept s)
theorem kept_sensorReported {s t : State} (h : t.kept = s.kept) : t.tc.sensorReported = s.tc.sensorReported := congrArg Kept.sensorReported h
@[simp] theorem finish_sensorReported : (finish s).tc.sensorReported = s.tc.sensorReported := kept_sensorReported (finish_kept s)
theorem kept_groupCounter {s t : State} (h : t.kept = s.kept) : t.cs.groupCounter = s.cs.groupCounter := congrArg Kept.groupCounter h
@[simp] theorem finish_groupCounter : (finish s).cs.groupCounter = s.cs.groupCounter := kept_groupCounter (finish_kept s)
theorem kept_fillFigures {s t : State} (h : t.kept = s.kept) : t.fillFigures = s.fillFigures := congrArg Kept.fill h
@[simp] theorem finish_fillFigures : (finish s).fillFigures = s.fillFigures := kept_fillFigures (finish_kept s)

/-- With the level below HIGH the figures of the fill themselves are kept. -/
theorem kept_fill {s t : State} (hl : s.hc.level ≠ .high) (h : t.kept = s.kept) :
    t.cs.ctx.fill = s.cs.ctx.fill ∧ t.su.sample = s.su.sample ∧ t.su.hin = s.su.hin ∧ t.su.cellFault = s.su.cellFault
      ∧ t.su.predicted = s.su.predicted ∧ t.su.gate = s.su.gate := by
  have ht : t.hc.level = s.hc.level := kept_level h
  have hf := kept_fillFigures h
  simpa [State.fillFigures, ht, hl] using hf
theorem kept_firstFault {s t : State} (h : t.kept = s.kept) : t.cs.ctx.firstFault = s.cs.ctx.firstFault := congrArg Kept.firstFault h
@[simp] theorem finish_firstFault : (finish s).cs.ctx.firstFault = s.cs.ctx.firstFault := kept_firstFault (finish_kept s)
theorem kept_owner {s t : State} (h : t.kept = s.kept) : t.cs.ctx.owner = s.cs.ctx.owner := congrArg Kept.owner h
@[simp] theorem finish_owner : (finish s).cs.ctx.owner = s.cs.ctx.owner := kept_owner (finish_kept s)
theorem kept_startTag {s t : State} (h : t.kept = s.kept) : t.cs.ctx.startTag = s.cs.ctx.startTag := congrArg Kept.startTag h
@[simp] theorem finish_startTag : (finish s).cs.ctx.startTag = s.cs.ctx.startTag := kept_startTag (finish_kept s)
theorem kept_serviceReturn {s t : State} (h : t.kept = s.kept) : t.cs.ctx.serviceReturn = s.cs.ctx.serviceReturn := congrArg Kept.serviceReturn h
@[simp] theorem finish_serviceReturn : (finish s).cs.ctx.serviceReturn = s.cs.ctx.serviceReturn := kept_serviceReturn (finish_kept s)

end Sys2Proof.Machine
end

