-- ==== Sys2Proof/Laws/PerInstr.lean ====
section
/-! SUPPORT. One family of lemmas over every command, as syntax: a well-formed order is carried by a legal ORDER
frame. -/

namespace Sys2Proof.Laws

/-- A byte figure of two bytes. -/
theorem be2_bytes (n : Nat) : (Machine.be2 n).all isByte = true := by
  simp [Machine.be2, isByte]
  omega

/-- The bytes that carry a well-formed record: at most 15, each a byte. -/
theorem rawBytes_payload (r : RawPhase) (h : r.wf = true) :
    (Machine.rawBytes r).all isByte = true
      ∧ (Machine.rawBytes r).length = if r.drying.isSome then 15 else 10 := by
  simp only [RawPhase.wf, isByte, Bool.and_eq_true, decide_eq_true_eq] at h
  obtain ⟨⟨⟨⟨⟨⟨⟨hk, -⟩, -⟩, -⟩, hl⟩, hp⟩, hd⟩, hr⟩ := h
  have hf : Machine.rawFlags r < 256 := by
    unfold Machine.rawFlags
    repeat' split
    all_goals omega
  cases hx : r.drying with
  | none =>
    simp [Machine.rawBytes, Machine.be2, isByte, hx, hf, hk, hl]
    omega
  | some d =>
    simp only [hx, Option.all_some, RawDrying.wf, isByte, Bool.and_eq_true, decide_eq_true_eq] at hr
    simp [Machine.rawBytes, Machine.be2, isByte, hx, hf, hk, hl, hr]
    omega

namespace Framed

/-- An order that is well formed is carried, to any destination byte, by a legal ORDER frame (R154, R165). -/
def Statement (c : Instr) : Prop :=
  c.wf = true → ∀ dst, dst < 256 → ∀ f, Machine.encodeOrder dst c = some f → f.wf = true ∧ f.kind = Machine.kindOrder

theorem powerOn (pins : Pins) (straps : Nat) (chip : Option SerialMemory) : Statement (.powerOn pins straps chip) := by
  intro _ _ _ _ h
  simp [Machine.encodeOrder, Machine.orderBody] at h
theorem readyQuery (src tag : Nat) : Statement (.readyQuery src tag) := by
  intro h dst hd f hf
  simp only [Instr.wf, orderWf, isStation, isByte, Bool.and_eq_true, decide_eq_true_eq] at h
  simp only [Machine.encodeOrder, Machine.orderBody, Option.map_some, Option.some.injEq] at hf
  subst hf
  simp [Frame.wf, isPayload, isByte, Machine.kindOrder]
  omega
theorem statusQuery (src tag : Nat) : Statement (.statusQuery src tag) := by
  intro h dst hd f hf
  simp only [Instr.wf, orderWf, isStation, isByte, Bool.and_eq_true, decide_eq_true_eq] at h
  simp only [Machine.encodeOrder, Machine.orderBody, Option.map_some, Option.some.injEq] at hf
  subst hf
  simp [Frame.wf, isPayload, isByte, Machine.kindOrder]
  omega
theorem loadPhases (src tag start : Nat) (recs : List RawPhase) : Statement (.loadPhases src tag start recs) := by
  intro h dst hd f hf
  simp only [Instr.wf, orderWf, isStation, isByte, Bool.and_eq_true, decide_eq_true_eq] at h
  simp only [Machine.encodeOrder, Machine.orderBody, Option.map_some, Option.some.injEq] at hf
  subst hf
  obtain ⟨⟨⟨⟨h1, h2⟩, h3⟩, h4⟩, h5⟩ := h
  match recs, h5 with
  | [a], h5 =>
    obtain ⟨p, q⟩ := rawBytes_payload a h5
    simp only [List.all_eq_true] at p
    have p' : ∀ x ∈ Machine.rawBytes a, x < 256 := fun x hx => by simpa [isByte] using p x hx
    simp only [Frame.wf, isPayload, isByte, Machine.kindOrder, List.flatMap_cons, List.flatMap_nil, List.append_nil,
      List.length_cons, q, List.all_cons, List.all_eq_true, Bool.and_eq_true, decide_eq_true_eq]
    refine ⟨⟨⟨⟨⟨by omega, by omega⟩, hd⟩, rfl⟩, by split <;> omega, by omega, h3, h4, p'⟩, trivial⟩
  | [a, b], h5 =>
    simp only [recordsWf, Bool.and_eq_true, Option.isNone_iff_eq_none] at h5
    obtain ⟨⟨⟨ha, hb⟩, na⟩, nb⟩ := h5
    obtain ⟨p, q⟩ := rawBytes_payload a ha
    obtain ⟨p', q'⟩ := rawBytes_payload b hb
    simp only [List.all_eq_true] at p p'
    have p2 : ∀ x ∈ Machine.rawBytes a, x < 256 := fun x hx => by simpa [isByte] using p x hx
    have p3 : ∀ x ∈ Machine.rawBytes b, x < 256 := fun x hx => by simpa [isByte] using p' x hx
    rw [na] at q
    rw [nb] at q'
    simp only [Option.isSome_none, Bool.false_eq_true, if_false] at q q'
    simp only [Frame.wf, isPayload, isByte, Machine.kindOrder, List.flatMap_cons, List.flatMap_nil, List.append_nil,
      List.length_cons, List.length_append, q, q', List.all_cons, List.all_append, List.all_eq_true, Bool.and_eq_true,
      decide_eq_true_eq]
    refine ⟨⟨⟨⟨⟨by omega, by omega⟩, hd⟩, rfl⟩, by omega, by omega, h3, h4, p2, p3⟩, trivial⟩
theorem start (src tag : Nat) : Statement (.start src tag) := by
  intro h dst hd f hf
  simp only [Instr.wf, orderWf, isStation, isByte, Bool.and_eq_true, decide_eq_true_eq] at h
  simp only [Machine.encodeOrder, Machine.orderBody, Option.map_some, Option.some.injEq] at hf
  subst hf
  simp [Frame.wf, isPayload, isByte, Machine.kindOrder]
  omega
theorem pause (src tag : Nat) : Statement (.pause src tag) := by
  intro h dst hd f hf
  simp only [Instr.wf, orderWf, isStation, isByte, Bool.and_eq_true, decide_eq_true_eq] at h
  simp only [Machine.encodeOrder, Machine.orderBody, Option.map_some, Option.some.injEq] at hf
  subst hf
  simp [Frame.wf, isPayload, isByte, Machine.kindOrder]
  omega
theorem resume (src tag : Nat) : Statement (.resume src tag) := by
  intro h dst hd f hf
  simp only [Instr.wf, orderWf, isStation, isByte, Bool.and_eq_true, decide_eq_true_eq] at h
  simp only [Machine.encodeOrder, Machine.orderBody, Option.map_some, Option.some.injEq] at hf
  subst hf
  simp [Frame.wf, isPayload, isByte, Machine.kindOrder]
  omega
theorem abort (src tag : Nat) : Statement (.abort src tag) := by
  intro h dst hd f hf
  simp only [Instr.wf, orderWf, isStation, isByte, Bool.and_eq_true, decide_eq_true_eq] at h
  simp only [Machine.encodeOrder, Machine.orderBody, Option.map_some, Option.some.injEq] at hf
  subst hf
  simp [Frame.wf, isPayload, isByte, Machine.kindOrder]
  omega
theorem amend (src tag target field value : Nat) : Statement (.amend src tag target field value) := by
  intro h dst hd f hf
  simp only [Instr.wf, orderWf, isStation, isByte, Bool.and_eq_true, decide_eq_true_eq] at h
  simp only [Machine.encodeOrder, Machine.orderBody, Option.map_some, Option.some.injEq] at hf
  subst hf
  simp [Frame.wf, isPayload, isByte, Machine.kindOrder, Machine.be2]
  omega
theorem holdAmendments (src tag : Nat) : Statement (.holdAmendments src tag) := by
  intro h dst hd f hf
  simp only [Instr.wf, orderWf, isStation, isByte, Bool.and_eq_true, decide_eq_true_eq] at h
  simp only [Machine.encodeOrder, Machine.orderBody, Option.map_some, Option.some.injEq] at hf
  subst hf
  simp [Frame.wf, isPayload, isByte, Machine.kindOrder]
  omega
theorem releaseAmendments (src tag : Nat) : Statement (.releaseAmendments src tag) := by
  intro h dst hd f hf
  simp only [Instr.wf, orderWf, isStation, isByte, Bool.and_eq_true, decide_eq_true_eq] at h
  simp only [Machine.encodeOrder, Machine.orderBody, Option.map_some, Option.some.injEq] at hf
  subst hf
  simp [Frame.wf, isPayload, isByte, Machine.kindOrder]
  omega
theorem readReport (src tag start part : Nat) : Statement (.readReport src tag start part) := by
  intro h dst hd f hf
  simp only [Instr.wf, orderWf, isStation, isByte, Bool.and_eq_true, decide_eq_true_eq] at h
  simp only [Machine.encodeOrder, Machine.orderBody, Option.map_some, Option.some.injEq] at hf
  subst hf
  simp [Frame.wf, isPayload, isByte, Machine.kindOrder]
  omega
theorem sense (src tag : Nat) : Statement (.sense src tag) := by
  intro h dst hd f hf
  simp only [Instr.wf, orderWf, isStation, isByte, Bool.and_eq_true, decide_eq_true_eq] at h
  simp only [Machine.encodeOrder, Machine.orderBody, Option.map_some, Option.some.injEq] at hf
  subst hf
  simp [Frame.wf, isPayload, isByte, Machine.kindOrder]
  omega
theorem reservoirFilled (src tag reservoir : Nat) : Statement (.reservoirFilled src tag reservoir) := by
  intro h dst hd f hf
  simp only [Instr.wf, orderWf, isStation, isByte, Bool.and_eq_true, decide_eq_true_eq] at h
  simp only [Machine.encodeOrder, Machine.orderBody, Option.map_some, Option.some.injEq] at hf
  subst hf
  simp [Frame.wf, isPayload, isByte, Machine.kindOrder]
  omega
theorem forceRegeneration (src tag : Nat) : Statement (.forceRegeneration src tag) := by
  intro h dst hd f hf
  simp only [Instr.wf, orderWf, isStation, isByte, Bool.and_eq_true, decide_eq_true_eq] at h
  simp only [Machine.encodeOrder, Machine.orderBody, Option.map_some, Option.some.injEq] at hf
  subst hf
  simp [Frame.wf, isPayload, isByte, Machine.kindOrder]
  omega
theorem serviceTest (src tag : Nat) : Statement (.serviceTest src tag) := by
  intro h dst hd f hf
  simp only [Instr.wf, orderWf, isStation, isByte, Bool.and_eq_true, decide_eq_true_eq] at h
  simp only [Machine.encodeOrder, Machine.orderBody, Option.map_some, Option.some.injEq] at hf
  subst hf
  simp [Frame.wf, isPayload, isByte, Machine.kindOrder]
  omega
theorem deviceReset (src tag : Nat) : Statement (.deviceReset src tag) := by
  intro h dst hd f hf
  simp only [Instr.wf, orderWf, isStation, isByte, Bool.and_eq_true, decide_eq_true_eq] at h
  simp only [Machine.encodeOrder, Machine.orderBody, Option.map_some, Option.some.injEq] at hf
  subst hf
  simp [Frame.wf, isPayload, isByte, Machine.kindOrder]
  omega
theorem unknownOrder (frame : Frame) : Statement (.unknownOrder frame) := by
  intro _ _ _ _ h
  simp [Machine.encodeOrder, Machine.orderBody] at h
theorem receivedLoadNotice (src dst : Nat) (payload : List Nat) : Statement (.receivedLoadNotice src dst payload) := by
  intro _ _ _ _ h
  simp [Machine.encodeOrder, Machine.orderBody] at h
theorem receivedClaim (src dst : Nat) (payload : List Nat) : Statement (.receivedClaim src dst payload) := by
  intro _ _ _ _ h
  simp [Machine.encodeOrder, Machine.orderBody] at h
theorem shed (src dst : Nat) (payload : List Nat) : Statement (.shed src dst payload) := by
  intro _ _ _ _ h
  simp [Machine.encodeOrder, Machine.orderBody] at h
theorem shedEnd (src dst : Nat) (payload : List Nat) : Statement (.shedEnd src dst payload) := by
  intro _ _ _ _ h
  simp [Machine.encodeOrder, Machine.orderBody] at h
theorem motionNotice (src dst : Nat) (payload : List Nat) : Statement (.motionNotice src dst payload) := by
  intro _ _ _ _ h
  simp [Machine.encodeOrder, Machine.orderBody] at h
theorem tankNotice (src dst : Nat) (payload : List Nat) : Statement (.tankNotice src dst payload) := by
  intro _ _ _ _ h
  simp [Machine.encodeOrder, Machine.orderBody] at h
theorem orderAccepted (frame : Frame) : Statement (.orderAccepted frame) := by
  intro _ _ _ _ h
  simp [Machine.encodeOrder, Machine.orderBody] at h
theorem receivedAnswerOrCompletion (frame : Frame) : Statement (.receivedAnswerOrCompletion frame) := by
  intro _ _ _ _ h
  simp [Machine.encodeOrder, Machine.orderBody] at h
theorem frameVoid : Statement (.frameVoid) := by
  intro _ _ _ _ h
  simp [Machine.encodeOrder, Machine.orderBody] at h
theorem sendAttempt : Statement (.sendAttempt) := by
  intro _ _ _ _ h
  simp [Machine.encodeOrder, Machine.orderBody] at h
theorem arbitrationLost : Statement (.arbitrationLost) := by
  intro _ _ _ _ h
  simp [Machine.encodeOrder, Machine.orderBody] at h
theorem collision : Statement (.collision) := by
  intro _ _ _ _ h
  simp [Machine.encodeOrder, Machine.orderBody] at h
theorem ownFrameEnd (ack : Bool) : Statement (.ownFrameEnd ack) := by
  intro _ _ _ _ h
  simp [Machine.encodeOrder, Machine.orderBody] at h
theorem lineResetCondition : Statement (.lineResetCondition) := by
  intro _ _ _ _ h
  simp [Machine.encodeOrder, Machine.orderBody] at h
theorem refreshTick : Statement (.refreshTick) := by
  intro _ _ _ _ h
  simp [Machine.encodeOrder, Machine.orderBody] at h
theorem entryAgedOut (station : Nat) : Statement (.entryAgedOut station) := by
  intro _ _ _ _ h
  simp [Machine.encodeOrder, Machine.orderBody] at h
theorem viewOverflowEnd : Statement (.viewOverflowEnd) := by
  intro _ _ _ _ h
  simp [Machine.encodeOrder, Machine.orderBody] at h
theorem settleEnd : Statement (.settleEnd) := by
  intro _ _ _ _ h
  simp [Machine.encodeOrder, Machine.orderBody] at h
theorem stationConflictEnd : Statement (.stationConflictEnd) := by
  intro _ _ _ _ h
  simp [Machine.encodeOrder, Machine.orderBody] at h
theorem deferralTimerExpiry : Statement (.deferralTimerExpiry) := by
  intro _ _ _ _ h
  simp [Machine.encodeOrder, Machine.orderBody] at h
theorem shedHoldExpiry : Statement (.shedHoldExpiry) := by
  intro _ _ _ _ h
  simp [Machine.encodeOrder, Machine.orderBody] at h
theorem flowPulse (cond : Nat) : Statement (.flowPulse cond) := by
  intro _ _ _ _ h
  simp [Machine.encodeOrder, Machine.orderBody] at h
theorem fillTimeout : Statement (.fillTimeout) := by
  intro _ _ _ _ h
  simp [Machine.encodeOrder, Machine.orderBody] at h
theorem noFlowTimeout : Statement (.noFlowTimeout) := by
  intro _ _ _ _ h
  simp [Machine.encodeOrder, Machine.orderBody] at h
theorem sampleReading (cond : Nat) : Statement (.sampleReading cond) := by
  intro _ _ _ _ h
  simp [Machine.encodeOrder, Machine.orderBody] at h
theorem sampleEnd : Statement (.sampleEnd) := by
  intro _ _ _ _ h
  simp [Machine.encodeOrder, Machine.orderBody] at h
theorem levelReadingChange (lvl0 lvl1 lvl2 : Bool) : Statement (.levelReadingChange lvl0 lvl1 lvl2) := by
  intro _ _ _ _ h
  simp [Machine.encodeOrder, Machine.orderBody] at h
theorem circulationPeriodEnd : Statement (.circulationPeriodEnd) := by
  intro _ _ _ _ h
  simp [Machine.encodeOrder, Machine.orderBody] at h
theorem diverterMoveConfirmed (pos : DivPos) : Statement (.diverterMoveConfirmed pos) := by
  intro _ _ _ _ h
  simp [Machine.encodeOrder, Machine.orderBody] at h
theorem diverterMoveTimeout : Statement (.diverterMoveTimeout) := by
  intro _ _ _ _ h
  simp [Machine.encodeOrder, Machine.orderBody] at h
theorem alternateTimer : Statement (.alternateTimer) := by
  intro _ _ _ _ h
  simp [Machine.encodeOrder, Machine.orderBody] at h
theorem turbidityReading (raw : Nat) : Statement (.turbidityReading raw) := by
  intro _ _ _ _ h
  simp [Machine.encodeOrder, Machine.orderBody] at h
theorem holdTimerEnd : Statement (.holdTimerEnd) := by
  intro _ _ _ _ h
  simp [Machine.encodeOrder, Machine.orderBody] at h
theorem drainAfterRunEnd : Statement (.drainAfterRunEnd) := by
  intro _ _ _ _ h
  simp [Machine.encodeOrder, Machine.orderBody] at h
theorem drainLimit : Statement (.drainLimit) := by
  intro _ _ _ _ h
  simp [Machine.encodeOrder, Machine.orderBody] at h
theorem leakLatchSet : Statement (.leakLatchSet) := by
  intro _ _ _ _ h
  simp [Machine.encodeOrder, Machine.orderBody] at h
theorem serviceItemEnd : Statement (.serviceItemEnd) := by
  intro _ _ _ _ h
  simp [Machine.encodeOrder, Machine.orderBody] at h
theorem serviceGrantTimeout : Statement (.serviceGrantTimeout) := by
  intro _ _ _ _ h
  simp [Machine.encodeOrder, Machine.orderBody] at h
theorem stepLimitReached : Statement (.stepLimitReached) := by
  intro _ _ _ _ h
  simp [Machine.encodeOrder, Machine.orderBody] at h
theorem strokeConfirmed (res : Reservoir) : Statement (.strokeConfirmed res) := by
  intro _ _ _ _ h
  simp [Machine.encodeOrder, Machine.orderBody] at h
theorem strokeTimeout : Statement (.strokeTimeout) := by
  intro _ _ _ _ h
  simp [Machine.encodeOrder, Machine.orderBody] at h
theorem strokeRestEnd : Statement (.strokeRestEnd) := by
  intro _ _ _ _ h
  simp [Machine.encodeOrder, Machine.orderBody] at h
theorem lowSwitchDebounced (res : Reservoir) (low : Bool) : Statement (.lowSwitchDebounced res low) := by
  intro _ _ _ _ h
  simp [Machine.encodeOrder, Machine.orderBody] at h
theorem temperatureReading (temp : Int) : Statement (.temperatureReading temp) := by
  intro _ _ _ _ h
  simp [Machine.encodeOrder, Machine.orderBody] at h
theorem sensorFault : Statement (.sensorFault) := by
  intro _ _ _ _ h
  simp [Machine.encodeOrder, Machine.orderBody] at h
theorem otcCut : Statement (.otcCut) := by
  intro _ _ _ _ h
  simp [Machine.encodeOrder, Machine.orderBody] at h
theorem elementOnLimit : Statement (.elementOnLimit) := by
  intro _ _ _ _ h
  simp [Machine.encodeOrder, Machine.orderBody] at h
theorem supplyWaitLimit : Statement (.supplyWaitLimit) := by
  intro _ _ _ _ h
  simp [Machine.encodeOrder, Machine.orderBody] at h
theorem doorReadingChange (latch ajar : Bool) : Statement (.doorReadingChange latch ajar) := by
  intro _ _ _ _ h
  simp [Machine.encodeOrder, Machine.orderBody] at h
theorem motionValidityLapse (station : Nat) : Statement (.motionValidityLapse station) := by
  intro _ _ _ _ h
  simp [Machine.encodeOrder, Machine.orderBody] at h
theorem condenseEnd : Statement (.condenseEnd) := by
  intro _ _ _ _ h
  simp [Machine.encodeOrder, Machine.orderBody] at h
theorem lrelDelayEnd : Statement (.lrelDelayEnd) := by
  intro _ _ _ _ h
  simp [Machine.encodeOrder, Machine.orderBody] at h
theorem armGapRead : Statement (.armGapRead) := by
  intro _ _ _ _ h
  simp [Machine.encodeOrder, Machine.orderBody] at h
theorem armHomeRead : Statement (.armHomeRead) := by
  intro _ _ _ _ h
  simp [Machine.encodeOrder, Machine.orderBody] at h
theorem armTravelLimit (home : Bool) : Statement (.armTravelLimit home) := by
  intro _ _ _ _ h
  simp [Machine.encodeOrder, Machine.orderBody] at h
theorem settleTimerEnd : Statement (.settleTimerEnd) := by
  intro _ _ _ _ h
  simp [Machine.encodeOrder, Machine.orderBody] at h
theorem ventTimerEnd : Statement (.ventTimerEnd) := by
  intro _ _ _ _ h
  simp [Machine.encodeOrder, Machine.orderBody] at h
theorem recordWriteComplete : Statement (.recordWriteComplete) := by
  intro _ _ _ _ h
  simp [Machine.encodeOrder, Machine.orderBody] at h
theorem recordWriteFailed : Statement (.recordWriteFailed) := by
  intro _ _ _ _ h
  simp [Machine.encodeOrder, Machine.orderBody] at h
theorem lineReleased : Statement (.lineReleased) := by
  intro _ _ _ _ h
  simp [Machine.encodeOrder, Machine.orderBody] at h
theorem goodFrameNotAccepted (frame : Frame) : Statement (.goodFrameNotAccepted frame) := by
  intro _ _ _ _ h
  simp [Machine.encodeOrder, Machine.orderBody] at h

end Framed

end Sys2Proof.Laws
end

