-- ==== Sys2Proof/Tests/Slice0.lean ====
section
/-! SUPPORT. Small tests: what WellFormed refuses, frames written out byte by byte, single steps whose results the
manual gives in its tables and worked sequences, and for every obligation with hypotheses a state that meets them. -/

namespace Sys2Proof.Tests

open Sys2Proof Sys2Proof.Machine

/-! ## Helpers -/

def after (c : Instr) (s : State) : State :=
  match exec c s with
  | .next t => t
  | _ => s

/-- A configured part, station 12, in EMPTY with the door latched, the line idle and the settle count run out. -/
def ready : State :=
  { State.reset with
    li := { State.reset.li with own := 12, line := .idle }
    rp := { State.reset.rp with configured := true }
    dc := { State.reset.dc with door := .latched, arm := .home }
    sa := { State.reset.sa with settle := 0 }
    su := { State.reset.su with account := 15000, bed := .depleted } }

def mainwash : PhaseRecord := ⟨.mainwash, 4200, 650, 900, 7, .upper, .detergent, true, true, false, none⟩
def rinse : PhaseRecord := ⟨.rinse, 3500, 400, 180, 6, .upper, .noDose, true, false, true, none⟩
def dry : PhaseRecord := ⟨.dry, 0, 0, 0, 1, .upper, .noDose, false, false, false, none⟩

def rawRinse : RawPhase := ⟨2, 3500, 400, 180, 10, 0, 0, false, false, false, none⟩
def rawDry : RawPhase := ⟨4, 500, 300, 0, 0, 0, 0, true, true, false, some ⟨2000, 1800, 1⟩⟩

def loaded : State :=
  { ready with
    cs := { ready.cs with
      state := .loaded, list := [mainwash, rinse, dry], loadIndex := 3, ctx := { ready.cs.ctx with owner := some 14 } } }

/-- Phase `k` of the programme in stage `g`, RUNNING, the water up. -/
def inStage (k : Nat) (g : Stage) : State :=
  { loaded with
    cs := { loaded.cs with state := .running, ctx := { loaded.cs.ctx with phase := k, stage := g } }
    hc := { loaded.hc with level := .normal, drive := 6, buffer := 6 } }

def heating : State :=
  { inStage 1 .heat with
    tc := { loaded.tc with tub := 180, target := 400, setpoint := 400, wanted := 2, driven := 1 }
    sa := { ready.sa with grants := { Loads.none with circ := 6, heater := 1 }, announced := 1162 }
    out := { Outputs.off with he1 := true, circ := 6 } }

def filling : State :=
  { inStage 1 .fill with
    hc := { loaded.hc with owner := .fill, fillState := .bypass, fillTarget := 4200, pulses := 250, planAsked := true }
    su := { ready.su with sample := some ⟨[718, 721, 722, 719, 720, 721, 720, 719], 0⟩ }
    out := { Outputs.off with vin := true } }

def paused (s : State) : State :=
  { s with cs := { s.cs with state := .paused, ctx := { s.cs.ctx with pauses := ⟨true, true, false⟩ } } }

def driven : State := { heating with sa := { heating.sa with announced := 300, grants := { Loads.none with circ := 6 } } }

def inState (x : CycleState) (s : State) : State := { s with cs := { s.cs with state := x } }

def draining (who : DrainFor) (s : State) : State :=
  { s with hc := { s.hc with drainOn := true, drainFor := who, drainEmpty := true, drainEverEmpty := true } }

def holding : State :=
  { inStage 1 .hold with
    cs := { (inStage 1 .hold).cs with holdStarted := true }
    hc := { (inStage 1 .hold).hc with circTime := 240, turbCount := 1, turbClass := some 3 } }

def regenRec (p : Placement) (q : SeqState) (x : StepPhase) : RegenRecord :=
  ⟨p, true, q, x, 100, 4, false, false, 180000, 0, 0, 14, 9⟩

def withRegen (r : RegenRecord) (s : State) : State :=
  { s with su := { s.su with regen := some r }, hc := { s.hc with owner := .regen } }

def job : DoseJob := ⟨.detergent, 289, 116, 0, 79, 0, .stroking, .unset, false, 3⟩
def dosing (j : DoseJob) : State :=
  { heating with du := { heating.du with job := some j, det := ⟨25, true, false, true, false, false⟩ } }

def dryRec (g : DryStage) : DryRecord := ⟨600, 1800, true, g, 2400, 0, .ventClosed, true, 0, false, .unset⟩

/-- The DRY phase in stage `g`, motion permitted by station 30. -/
def drying (g : DryStage) : State :=
  { inStage 2 .drying with
    sa := { ready.sa with view := [⟨30, 0, true, false, none, some ⟨4, 0, 0, true⟩, none⟩] }
    dc := { ready.dc with permitted := true, record := some (dryRec g) } }

def withMove (m : ArmMove) (a : ArmState) (s : State) : State := { s with dc := { s.dc with move := m, arm := a } }

def service (n : Nat) (w : Bool) : State :=
  { ready with
    cs := { ready.cs with state := .service }
    hc := { ready.hc with service := some ⟨14, 9, n, w, 8, 0, 0, false, 0, 0, 0⟩ } }

def sends (p : Place) (s : State) : State := { s with li := { s.li with sending := some p, line := .busy } }

def inFlight (w : WriteJob) (s : State) : State := { s with rp := { s.rp with inFlight := some w } }

/-! ## WellFormed: an ill-formed term for each check -/

def wfFrame : Frame := ⟨2, 14, 12, 0x40, [1, 9]⟩

theorem test_wf_accepts :
    (Instr.loadPhases 14 9 255 [rawRinse, rawRinse]).wf = true ∧ (Instr.loadPhases 14 9 0 [rawDry]).wf = true
      ∧ (Instr.powerOn Pins.atReset 12 none).wf = true ∧ (Instr.unknownOrder wfFrame).wf = true
      ∧ (Instr.shed 2 63 [3, 3, 32, 60]).wf = true ∧ (Instr.flowPulse 5000).wf = true := by decide
theorem test_wf_station : (Instr.start 0 9).wf = false ∧ (Instr.start 63 9).wf = false := by decide
theorem test_wf_tag : (Instr.sense 14 256).wf = false := by decide
theorem test_wf_pins : ({ Pins.atReset with cond := 5001 } : Pins).wf = false
    ∧ ({ Pins.atReset with turb := 1024 } : Pins).wf = false := by decide
theorem test_wf_straps : (Instr.powerOn Pins.atReset 64 none).wf = false := by decide
theorem test_wf_memory : (Instr.powerOn Pins.atReset 12 (some ⟨[256], []⟩)).wf = false
    ∧ (Instr.powerOn Pins.atReset 12 (some ⟨[], [256]⟩)).wf = false := by decide
theorem test_wf_frame : ({ wfFrame with cls := 4 } : Frame).wf = false ∧ ({ wfFrame with src := 64 } : Frame).wf = false
    ∧ ({ wfFrame with dst := 256 } : Frame).wf = false ∧ ({ wfFrame with kind := 256 } : Frame).wf = false := by decide
theorem test_wf_payload : ({ wfFrame with payload := List.replicate 25 0 } : Frame).wf = false
    ∧ ({ wfFrame with payload := [256] } : Frame).wf = false := by decide +kernel
theorem test_wf_notice : (Instr.shed 64 63 []).wf = false ∧ (Instr.shed 2 256 []).wf = false
    ∧ (Instr.shed 2 63 [256]).wf = false := by decide
theorem test_wf_record : ({ rawRinse with kind := 256 } : RawPhase).wf = false
    ∧ ({ rawRinse with fill := 65536 } : RawPhase).wf = false ∧ ({ rawRinse with temp := 65536 } : RawPhase).wf = false
    ∧ ({ rawRinse with hold := 65536 } : RawPhase).wf = false ∧ ({ rawRinse with level := 256 } : RawPhase).wf = false
    ∧ ({ rawRinse with pattern := 16 } : RawPhase).wf = false
    ∧ ({ rawRinse with dose := 16 } : RawPhase).wf = false := by decide
theorem test_wf_drying : RawDrying.wf ⟨65536, 0, 0⟩ = false ∧ RawDrying.wf ⟨0, 65536, 0⟩ = false
    ∧ RawDrying.wf ⟨0, 0, 256⟩ = false ∧ ({ rawDry with drying := some ⟨0, 0, 256⟩ } : RawPhase).wf = false := by decide
theorem test_wf_records : recordsWf [] = false ∧ recordsWf [rawRinse, rawDry] = false
    ∧ recordsWf [rawRinse, rawRinse, rawRinse] = false
    ∧ recordsWf [rawRinse, { rawRinse with kind := 256 }] = false := by decide
theorem test_wf_start_index : (Instr.loadPhases 14 9 256 [rawRinse]).wf = false := by decide
theorem test_wf_amend : (Instr.amend 14 9 256 0 0).wf = false ∧ (Instr.amend 14 9 0 256 0).wf = false
    ∧ (Instr.amend 14 9 0 0 65536).wf = false := by decide
theorem test_wf_report : (Instr.readReport 14 9 256 0).wf = false ∧ (Instr.readReport 14 9 0 256).wf = false := by decide
theorem test_wf_filled : (Instr.reservoirFilled 14 9 256).wf = false := by decide
theorem test_wf_entry : (Instr.entryAgedOut 0).wf = false ∧ (Instr.motionValidityLapse 63).wf = false := by decide
theorem test_wf_readings : (Instr.flowPulse 5001).wf = false ∧ (Instr.sampleReading 5001).wf = false
    ∧ (Instr.turbidityReading 1024).wf = false := by decide

/-! ## Frames and bytes, written out from chapters 9 to 11 -/

/-- R154: a CLAIM of 1162 by station 12 with rank 4: byte 0 is 0100 1100, and 8 bytes in all (section 9.2). -/
theorem test_frame_claim_bytes : (frameBytes (supplyFrameOf ready ⟨true, 1162⟩)).take 7
      = [0b01001100, 63, 0x11, 3, 0x04, 0x8A, 4]
    ∧ (frameBytes (supplyFrameOf ready ⟨true, 1162⟩)).length = 8 := by decide +kernel

/-- R153: another station's start bit makes an idle line BUSY. -/
theorem test_start_bit : (hearStartBit ready).li.line = .busy := by decide
/-- R157's example: bytes 0 0100 1100 and 0100 0101; the part, station 12, loses to station 5. -/
theorem test_contest_lost :
    contest (supplyFrameOf ready ⟨true, 1162⟩) ⟨1, 5, 63, 0x11, [0x0A, 0x28, 4]⟩ = .lost := by decide +kernel

/-- Section 9.9: a second station on number 12 sends LOAD NOTICE 300 beside the part's 1162. -/
theorem test_contest_collided :
    contest (supplyFrameOf ready ⟨false, 1162⟩) (supplyFrameOf ready ⟨false, 300⟩) = .collided := by decide +kernel

/-- Section 10.1: code 01, tag. -/
theorem test_frame_ready_query : decodeFrame ⟨2, 14, 12, 0x40, [0x01, 52]⟩ = .readyQuery 14 52 := by decide
/-- An ORDER with a code that the table of section 10.1 lacks. -/
theorem test_frame_unknown : decodeFrame ⟨2, 14, 12, 0x40, [0x77, 52]⟩ = .unknownOrder ⟨2, 14, 12, 0x40, [0x77, 52]⟩ := by
  decide
/-- No row of the table has bits. -/
theorem test_decode_table_word : decodeTableWord 8 0x01 = none := rfl
/-- R160: the default own group is 64 with mask 0, and a mask of 63 lets every group address match. -/
theorem test_groups :
    ownGroupMatches Configuration.standard 64 = true ∧ ownGroupMatches { Configuration.standard with groupMask := 63 } 70
      = true ∧ ownGroupMatches Configuration.standard 63 = false := by decide
/-- R173: a stored record with a bad check is not read. -/
theorem test_record_bad_check : readRecord (List.replicate 14 1) = none := by decide +kernel

/-! ## Single steps with results from the manual's tables and worked sequences -/

/-- Chapter 1: the RINSE sent with level 10 is stored with 8. -/
theorem test_load_clamps : (after (.loadPhases 14 9 255 [rawRinse]) ready).cs.list.map (·.level) = [8] := by
  decide +kernel
/-- Chapter 1: a record after DRY is refused with its index. -/
theorem test_load_after_dry : loadRefusal 14 255 [rawRinse] loaded = some ⟨.afterDry, 3⟩ := by decide
theorem test_load_not_owner : loadRefusal 21 2 [rawRinse] loaded = some ⟨.notOwner, 255⟩ := by decide
/-- Chapter 10: START with the door AJAR and a conflict count of 5. -/
theorem test_start_refused :
    (after (.start 14 60) { loaded with dc := { loaded.dc with door := .ajar }
                                        li := { loaded.li with conflict := 5 } }).li.answers
      = [⟨14, 60, .check, ⟨.doorNotLatched, 255⟩, [5, 2, 5], false⟩] := by decide +kernel
theorem test_start_fills : (after (.start 14 60) loaded).out.vin = true := by decide +kernel
/-- Chapter 10: SENSE from a station without an entry. -/
theorem test_sense_none : (after (.sense 14 9) ready).li.answers
    = [⟨14, 9, .good, ⟨.clear, 255⟩, [0, 0, 255, 0], false⟩] := by decide +kernel
/-- Chapter 10: the oldest of four entries makes room. -/
theorem test_sense_room : (senseRoom 40 [⟨14, ⟨.notOwner, 255⟩, 1⟩, ⟨7, ⟨.notOwner, 255⟩, 1⟩,
    ⟨30, ⟨.notOwner, 255⟩, 1⟩, ⟨21, ⟨.notOwner, 255⟩, 1⟩]).map (·.station) = [7, 30, 21] := by decide
theorem test_pause_heater : (after (.pause 14 9) heating).out.he1 = false := by decide +kernel
theorem test_resume_running :
    (after (.resume 14 9) { paused heating with dc := ready.dc }).cs.state = .running := by decide +kernel
theorem test_abort_drains : (after (.abort 21 9) heating).out.drain = true := by decide +kernel
/-- Chapter 3: eight readings with the mean 720 give Hin 310. -/
theorem test_sample_hin : (after .sampleEnd filling).su.hin = some 310 := by decide +kernel
/-- Chapter 3: the plan Vb 812, Vs 3388 with a predicted charge of 10,503. -/
theorem test_sample_plan :
    (after .sampleEnd { filling with hc := { filling.hc with pulses := 268 } }).su.plan = some ⟨812, 3388, 15000, 268⟩
      ∧ (after .sampleEnd { filling with hc := { filling.hc with pulses := 268 } }).su.predicted = 10503 := by
  decide +kernel
/-- Chapter 3: the first soft millilitre of the worked case charges 4. -/
theorem test_first_soft_pulse :
    (after (.flowPulse 720)
      { filling with
        hc := { filling.hc with pulses := 812, fillState := .soft, softFrom := 812 }
        su := { filling.su with sample := none, hin := some 310, plan := some ⟨812, 3388, 15000, 268⟩,
                                gate := .opened } }).su.account = 14996 := by decide +kernel
/-- R37. -/
theorem test_drain_after_run : (after .drainAfterRunEnd (draining .nobody ready)).out.drain = false := by decide +kernel
/-- R39. -/
theorem test_leak : (after .leakLatchSet filling).out.vin = false := by decide +kernel
/-- Chapter 5: stroke 80 takes the account from 25 to 0 and sets the exhausted flag. -/
theorem test_stroke_exhausts : (after (.strokeConfirmed .detergent) (dosing job)).du.det.account = 0
    ∧ (after (.strokeConfirmed .detergent) (dosing job)).du.det.exhausted = true := by decide +kernel
/-- R41: circulation time counts from the grant of the level, before the pump is driven too. -/
theorem test_circulation_time :
    (tickWater { holding with hc := { holding.hc with drive := 0, buffer := 6 } }).hc.circTime = 241 := by decide
/-- R42. -/
theorem test_turbidity : (after (.turbidityReading 380) holding).hc.turbClass = some 2
    ∧ (after (.turbidityReading 1023) holding).hc.turbClass = some 1 := by decide +kernel
/-- R122: 85.0 °C sets the latch and opens the relays. -/
theorem test_overtemperature : (after (.temperatureReading 850) heating).tc.overtemp = true
    ∧ (after (.temperatureReading 850) heating).out.he1 = false := by decide +kernel
/-- Chapter 6: the SHED of the worked case caps the allotment at 800. -/
theorem test_shed : allotment (after (.shed 2 63 [3, 3, 32, 60]) heating) = 800 := by decide +kernel
/-- R159. -/
theorem test_collision : (after .collision (sends .supply heating)).li.conflict = 8 := by decide +kernel
/-- R141. -/
theorem test_gap : (after .armGapRead (withMove .extend .extending (drying .opening))).dc.record.map (·.stage)
    = some .vent := by decide +kernel
/-- R140: a door plan held back by motion closes the final plan. -/
theorem test_condense_closed :
    (after .condenseEnd { drying .condense with sa := ready.sa }).cs.ctx.final = .closedDry := by decide +kernel
/-- R74, section 4.7: FLUSH's last pulse credits the bed. -/
theorem test_flush_credit :
    (after (.flowPulse 720)
      (withRegen { regenRec .inCycle .flush .flowing with credit := 90000, steps := 2 }
        { inStage 0 .regen with hc := { (inStage 0 .regen).hc with pulses := 1199 } })).su.account = 90000 := by
  decide +kernel
/-- R174. -/
theorem test_write_completes :
    (after .recordWriteComplete (inFlight ⟨{ PersistentRecord.bad with account := 4497 }, true, false⟩ filling)).rp.image.account
      = 4497 := by decide +kernel
/-- Log entries 3 and 4: with nothing waiting, time passes. -/
theorem test_tick : (match step ready with | .next t => t.now | _ => 0) = 1 := by decide +kernel

/-! ## States that meet the hypotheses of the obligations -/

theorem wit_FrontCommandSteps : ({ ready with pending := [.frameVoid, .sendAttempt] } : State).pending
    = .frameVoid :: [.sendAttempt] := rfl
theorem wit_EmptyQueueStep :
    (ready.pending = [] ∧ ready.li.receive = [])
      ∧ (({ ready with li := { ready.li with receive := [wfFrame] } } : State).li.receive = wfFrame :: []
        ∧ ohReady { ready with li := { ready.li with receive := [wfFrame] } } = true)
      ∧ ohReady State.reset = false := by decide
theorem wit_EveryCommandAnswers :
    (∀ (p : Pins) (n : Nat) (m : Option SerialMemory), Instr.frameVoid ≠ .powerOn p n m)
      ∧ Instr.frameVoid ≠ .recordWriteComplete :=
  ⟨fun _ _ _ h => Instr.noConfusion h, fun h => Instr.noConfusion h⟩

/-- R153: SETTLING becomes IDLE at a tick. Each clause of what is due at a state that meets it. -/
theorem wit_EmptyQueueStep_due :
    Instr.temperatureReading ready.pins.temp ∈ due ready
      ∧ Instr.sensorFault ∈ due { ready with tc := { ready.tc with badRun := 4 } }
      ∧ Instr.otcCut ∈ due { ready with pins := { ready.pins with otc := true } }
      ∧ Instr.fillTimeout ∈ due { filling with hc := { filling.hc with fillTimer := 1680 } }
      ∧ Instr.noFlowTimeout ∈ due { filling with hc := { filling.hc with noFlowTimer := 120 } }
      ∧ Instr.circulationPeriodEnd ∈ due { heating with hc := { heating.hc with driveTimer := 2, drive := 5 } }
      ∧ Instr.diverterMoveTimeout ∈ due { ready with hc := { ready.hc with divWanted := some .upper, divTimer := 32 } }
      ∧ Instr.alternateTimer ∈ due { heating with hc := { heating.hc with pattern := some .alternate, altTimer := 240 } }
      ∧ Instr.drainAfterRunEnd ∈ due { ready with hc := { (draining .cut ready).hc with afterTimer := 40 } }
      ∧ Instr.drainLimit ∈ due { ready with hc := { ready.hc with drainOn := true, drainTimer := 480 } } := by
  decide +kernel
theorem wit_EmptyQueueStep_due_work :
    Instr.serviceItemEnd ∈ due (service 1 false) ∧ Instr.serviceGrantTimeout ∈ due
        { service 5 true with hc := { ready.hc with service := some ⟨14, 9, 5, true, 0, 120, 0, false, 0, 0, 0⟩ } }
      ∧ Instr.sampleReading filling.pins.cond ∈ due { filling with su := { filling.su with sample := some ⟨[720], 1⟩ } }
      ∧ Instr.sampleEnd ∈ due { filling with su := { filling.su with sample := some ⟨[720], 8⟩ } }
      ∧ Instr.turbidityReading holding.pins.turb ∈ due { holding with cs := { holding.cs with holdTimer := 40 } }
      ∧ Instr.holdTimerEnd ∈ due { holding with cs := { holding.cs with holdTimer := 720 } }
      ∧ Instr.stepLimitReached ∈ due (withRegen { regenRec .inCycle .flush .flowing with time := 2400 } heating)
      ∧ Instr.strokeTimeout ∈ due (dosing { job with timer := 8 })
      ∧ Instr.strokeRestEnd ∈ due (dosing { job with phase := .resting, timer := 2 })
      ∧ Instr.elementOnLimit ∈ due { heating with tc := { heating.tc with elementOn := 9600 } }
      ∧ Instr.supplyWaitLimit ∈ due { heating with tc := { heating.tc with driven := 0, supplyWait := 10800 } } := by
  decide +kernel
theorem wit_EmptyQueueStep_due_door :
    Instr.motionValidityLapse 30 ∈ due { drying .vent with now := 124 }
      ∧ Instr.condenseEnd ∈ due { drying .condense with tc := { ready.tc with tub := 400 } }
      ∧ Instr.lrelDelayEnd ∈ due
        { drying .opening with
          dc := { (drying .opening).dc with move := .release, lrelTimer := 2 }
          sa := { ready.sa with grants := { Loads.none with actuator := true } } }
      ∧ Instr.armTravelLimit false ∈ due
        { ready with dc := { ready.dc with arm := .extending, travel := 24 }, pins := { ready.pins with home := false } }
      ∧ Instr.settleTimerEnd ∈ due
        { drying .ventClosed with dc := { (drying .ventClosed).dc with settle := 240 } }
      ∧ Instr.ventTimerEnd ∈ due
        { drying .vent with dc := { (drying .vent).dc with record := some { dryRec .vent with ventTimer := 7200 } } }
      ∧ Instr.shedHoldExpiry ∈ due { ready with sa := { ready.sa with shed := some ⟨2, 800, 0⟩ } }
      ∧ Instr.deferralTimerExpiry ∈ due { ready with sa := { ready.sa with deferral := some 40 } }
      ∧ Instr.refreshTick ∈ due { ready with sa := { ready.sa with refreshTimer := 40 } } := by decide +kernel

/-- Any 106 bytes that begin with version 1 make a good block with their check. -/
theorem wit_PowerOnReads :
    (∀ body : List Nat, body.length = 106 → body.getD 0 0 = 1 →
      let b := body ++ [crc8 body]
      107 ≤ b.length ∧ b.getD 0 0 = 1 ∧ crc8 (b.take 106) = b.getD 106 0)
      ∧ (1 :: List.replicate 105 0).length = 106 ∧ ¬(107 ≤ [1].length) := by
  refine ⟨fun body h h0 => ?_, by simp, by decide⟩
  have hx : body ≠ [] := by rintro rfl; simp at h
  refine ⟨by simp [h], ?_, ?_⟩
  · cases body with
    | nil => exact absurd rfl hx
    | cons x xs => simpa using h0
  · have ht : (body ++ [crc8 body]).take 106 = body := by rw [← h, List.take_left]
    have hg : (body ++ [crc8 body]).getD 106 0 = crc8 body := by simp [List.getD, ← h]
    rw [ht, hg]

/-- An invariant's hypotheses: the state with a void frame ending on the line, which steps. -/
def voiding (s : State) : State := { s with pending := [.frameVoid] }

theorem wit_voiding (s : State) : ∃ t, step (voiding s) = .next t := ⟨_, rfl⟩
theorem wit_HeaterInterlockKept : HeaterSafe (voiding heating) ∧ (voiding heating).out.he1 = true := by
  unfold HeaterSafe; decide
theorem wit_WaterOutputsKept :
    (InletSafe (voiding filling) ∧ (voiding filling).out.vin = true)
      ∧ (CirculationSafe (voiding filling) ∧ CirculationSafe (voiding heating))
      ∧ (FillBelowHigh (voiding filling) ∧ filling.cs.ctx.stage = .fill ∧ filling.hc.owner = .fill
        ∧ fillOpen filling.hc.fillState = true) :=
  ⟨⟨fun _ => .inl rfl, rfl⟩, by unfold CirculationSafe; decide, by unfold FillBelowHigh; decide⟩
theorem wit_SupplyWithinAllotment : SupplySafe (voiding heating) ∧ allotment (voiding heating) = 1162 :=
  ⟨⟨⟨by decide, by decide, ⟨nofun, nofun⟩⟩, by decide⟩, by decide⟩
theorem wit_TablesStayBounded : TablesBounded (voiding heating) := by
  unfold TablesBounded QueuesBounded ReportBounded; decide
theorem wit_PeerViewStaysSound : ViewSound (voiding (drying .vent)) := by unfold ViewSound; decide
theorem wit_AccountsStayInRange : AccountsSound (voiding filling) :=
  ⟨by decide, nofun, nofun, by decide, by decide, by decide, by decide, by decide⟩
theorem wit_PauseStateAgrees : PauseAgrees (voiding heating) ∧ PauseAgrees (voiding (paused heating)) := by
  unfold PauseAgrees; decide
theorem wit_CycleListStaysSound : ListSound (voiding heating).cs.list := by
  refine ⟨by decide, fun i r h k => ?_⟩
  match i, h with
  | 0, h => cases h; cases k
  | 1, h => cases h; cases k
  | 2, _ => rfl
  | n + 3, h => simp [voiding, heating, inStage, loaded] at h

theorem wit_OrderFramesDecode :
    ∀ c ∈ [Instr.readyQuery 1 0, .statusQuery 62 255, .loadPhases 14 9 255 [rawRinse, rawRinse],
        .loadPhases 14 9 0 [rawDry], .start 14 9, .pause 14 9, .resume 14 9, .abort 14 9, .amend 14 9 255 255 65535,
        .holdAmendments 14 9, .releaseAmendments 14 9, .readReport 14 9 255 0, .sense 14 9, .reservoirFilled 14 9 1,
        .forceRegeneration 14 9, .serviceTest 14 9, .deviceReset 14 9],
      c.isOrder = true ∧ c.wf = true := by decide
theorem wit_BytesReadBack : (∃ r : PersistentRecord, r.account = 2 ^ 24 - 1 ∧ r.det = 2 ^ 24 - 1 ∧ r.rin = 0
      ∧ r.count = 2 ^ 16 - 1) ∧ (⟨3, 63, 255, 255, List.replicate 24 255⟩ : Frame).wf = true
      ∧ (⟨0, 0, 0, 0, []⟩ : Frame).wf = true :=
  ⟨⟨{ PersistentRecord.bad with account := 2 ^ 24 - 1, det := 2 ^ 24 - 1, count := 2 ^ 16 - 1 }, rfl, rfl, rfl, rfl⟩,
    by decide, by decide⟩

/-- An order with the receive queue empty: OH decodes it. -/
theorem wit_decodes (c : Instr) : Decodes c ready ready ∧ Decodes c loaded loaded ∧ Decodes c heating heating :=
  ⟨⟨rfl, rfl⟩, ⟨rfl, rfl⟩, ⟨rfl, rfl⟩⟩
/-- An order at the head of the receive queue: OH decodes it and removes it. -/
theorem wit_decodes_queued :
    Decodes (.readyQuery 14 9) { ready with li := { ready.li with receive := [wfFrame] } } ready := ⟨rfl, rfl⟩

theorem wit_QueriesReport : Decodes (.readyQuery 14 9) loaded loaded ∧ Decodes (.statusQuery 14 9) heating heating :=
  ⟨⟨rfl, rfl⟩, ⟨rfl, rfl⟩⟩
theorem wit_SenseReportsAndClears : Decodes (.sense 14 9) ready ready := ⟨rfl, rfl⟩
theorem wit_RefusedOrdersOnlyAnswer :
    refusable (.pause 14 9) = some (14, 9, pauseTests 14) ∧ Decodes (.pause 14 9) ready ready
      ∧ (if ready.rp.configured then pauseTests 14 ready else some ⟨.unconfigured, 255⟩) = some ⟨.notRunning, 255⟩ :=
  ⟨rfl, ⟨rfl, rfl⟩, rfl⟩
theorem wit_RefusedOrdersOnlyAnswer_unconfigured :
    let s := { ready with rp := { ready.rp with configured := false } }
    refusable (.deviceReset 14 9) = some (14, 9, fun _ => none) ∧ Decodes (.deviceReset 14 9) s s
      ∧ (if s.rp.configured then none else some (⟨.unconfigured, 255⟩ : Sense)) = some ⟨.unconfigured, 255⟩ :=
  ⟨rfl, ⟨rfl, rfl⟩, rfl⟩

def fourEntries : List SenseEntry :=
  [⟨14, ⟨.notOwner, 255⟩, 1⟩, ⟨21, ⟨.notOwner, 255⟩, 1⟩, ⟨7, ⟨.notOwner, 255⟩, 1⟩, ⟨30, ⟨.notOwner, 255⟩, 1⟩]

theorem wit_RefusedOrdersOnlyAnswer_table :
    fourEntries.length ≤ 4 ∧ (fourEntries.map (·.station)).Nodup ∧ 14 ∈ fourEntries.map (·.station)
      ∧ 40 ∉ fourEntries.map (·.station) ∧ fourEntries.length = 4
      ∧ 14 ∉ (fourEntries.drop 1).map (·.station) ∧ (fourEntries.drop 1).length < 4 := by decide

def reported : State :=
  { ready with rp := { ready.rp with report := [.phase 0 .rinse false PhaseDraft.zero 0 0 0 0, .summary .done 1 2 3] } }

theorem wit_ReadReportWalks :
    Decodes (.readReport 14 9 255 7) reported reported
      ∧ (reported.rp.report[reported.oh.reportIndex]? = some (.phase 0 .rinse false PhaseDraft.zero 0 0 0 0)
        ∧ ReportEntry.hasPart (.phase 0 .rinse false PhaseDraft.zero 0 0 0 0) 1 = true
        ∧ reported.rp.report[1]? = some (.summary .done 1 2 3) ∧ ReportEntry.hasPart (.summary .done 1 2 3) 0 = true
        ∧ ReportEntry.hasPart (.summary .done 1 2 3) 1 = false ∧ reported.rp.report.length ≤ 2) :=
  ⟨⟨rfl, rfl⟩, by decide⟩
theorem wit_DeviceResetWaitsThenRuns :
    let s := sends .answer { loaded with li := { loaded.li with answers := [⟨14, 9, .good, noSense, [], true⟩] } }
    s.li.sending = some .answer ∧ s.li.answers = ⟨14, 9, .good, noSense, [], true⟩ :: [] ∧ s.rp.configured = true := by
  decide
theorem wit_UnknownOrdersAnswered :
    (∀ f ∈ [(⟨2, 14, 12, 0x55, [9]⟩ : Frame), ⟨2, 14, 12, 0x40, [0x11]⟩, ⟨2, 14, 12, 0x40, [0x77, 9]⟩,
        ⟨2, 14, 12, 0x40, [0x18, 9, 1]⟩, ⟨2, 14, 12, 0x40, []⟩], decodeFrame f = .unknownOrder f)
      ∧ Decodes (.unknownOrder wfFrame) ready ready := ⟨by decide, ⟨rfl, rfl⟩⟩
theorem wit_PhaseRecordClamped : kindOf 5 = none ∧ patternOf 4 = none ∧ doseOf 3 = none := by decide

def newList : List PhaseRecord := [storedRecord rawRinse .rinse .upper .noDose]

theorem wit_LoadPhasesStores :
    (Decodes (.loadPhases 14 9 255 [rawRinse]) ready ready ∧ ready.rp.configured = true
        ∧ loadStateTests 14 255 ready = none ∧ loadResult 255 [rawRinse] ready = .ok newList)
      ∧ (Decodes (.loadPhases 14 9 1 [rawRinse]) loaded loaded ∧ loaded.rp.configured = true
        ∧ loadStateTests 14 1 loaded = none
        ∧ loadResult 1 [rawRinse] loaded = .ok [mainwash, storedRecord rawRinse .rinse .upper .noDose, dry]) :=
  ⟨⟨⟨rfl, rfl⟩, rfl, rfl, rfl⟩, ⟨rfl, rfl⟩, rfl, rfl, rfl⟩
theorem wit_LoadPhasesRefuses_states :
    (inState .recovery ready).cs.state = .recovery ∧ heating.cs.state = .running ∧ (service 1 false).cs.state = .service
      ∧ loaded.cs.state = .loaded ∧ loaded.cs.ctx.owner ≠ some 21
      ∧ (inState .ended loaded).cs.state = .ended ∧ (1 : Nat) ≠ 0 := by decide
theorem wit_LoadPhasesRefuses_records :
    kindOf 5 = none ∧ (kindOf rawRinse.kind).isSome
      ∧ ((patternOf rawRinse.pattern).isSome ∧ (doseOf rawRinse.dose).isSome)
      ∧ ¬((patternOf 4).isSome ∧ (doseOf 0).isSome) ∧ 11 < 12 ∧ [rinse].length < 2
      ∧ (kindOf rawDry.kind = some .dry ∧ [rinse].length ≤ 11 ∧ [rawRinse] ≠ [])
      ∧ (0 ≤ 11 ∧ 0 + 1 < [rinse, rinse].length) ∧ kindOf rawRinse.kind ≠ some .dry
      ∧ ∃ x ∈ [rinse, dry].take 2, x.kind = .dry := by decide
/-- R2: a DRY record sent on its own behind a DRY record is refused. -/
theorem wit_LoadPhasesRefuses_second_dry :
    (kindOf rawDry.kind = some .dry ∧ [rinse, dry].length ≤ 2 + 1 ∧ ∃ x ∈ [rinse, dry].take 2, x.kind = .dry)
      ∧ (patternOf rawDry.pattern).isSome ∧ (doseOf rawDry.dose).isSome
      ∧ storeRecords [rinse, dry] 2 [rawDry] = .error ⟨.afterDry, 2⟩ := by decide
theorem wit_LoadPhasesRefuses_list :
    (ready.cs.state = .empty ∧ loaded.cs.ctx.owner = some 14 ∧ (inState .ended loaded).cs.state = .ended)
      ∧ storeRecords [] 0 [rawRinse, { rawRinse with kind := 5 }] = .error ⟨.badKind, 1⟩
      ∧ storeRecords [] 0 [rawRinse] = .ok [storedRecord rawRinse .rinse .upper .noDose]
      ∧ (kindOf rawRinse.kind = some .rinse ∧ patternOf rawRinse.pattern = some .upper ∧ doseOf rawRinse.dose = some .noDose
        ∧ ∀ x ∈ [mainwash].take 1, x.kind ≠ .dry)
      ∧ kindOf rawDry.kind = some .dry := by decide
theorem wit_StartBeginsCycle :
    Decodes (.start 14 9) loaded loaded
      ∧ (loaded.rp.configured = true ∧ loaded.cs.state = .loaded ∧ loaded.su.regenerating = false
        ∧ loaded.cs.ctx.owner = some 14 ∧ loaded.hc.leakLatch = false ∧ loaded.tc.overtemp = false
        ∧ loaded.dc.door = .latched ∧ tankReserve loaded = false ∧ loaded.cs.list[0]? = some mainwash
        ∧ mainwash.kind ≠ .dry ∧ loaded.tc.faulted = false ∧ dryingLive loaded = false ∧ loaded.su.gate = .shut) :=
  ⟨⟨rfl, rfl⟩, by decide⟩
/-- The three other beginnings: a sensor FAULTED, a tub that reads HIGH already, a DRY first record. -/
theorem wit_StartBeginsCycle_others :
    (let s := { loaded with tc := { loaded.tc with faulted := true } };
      Decodes (.start 14 9) s s ∧ s.tc.faulted = true)
      ∧ (let s := { loaded with hc := { loaded.hc with level := .high } };
        Decodes (.start 14 9) s s ∧ s.hc.level = .high ∧ s.hc.owner = .free ∧ s.su.regen = none ∧ s.hc.drainOn = false)
      ∧ (let s := { loaded with cs := { loaded.cs with list := [dry] } };
        Decodes (.start 14 9) s s ∧ s.cs.list[0]? = some dry ∧ dry.kind = .dry ∧ s.rp.cfg.defaultCondense ≠ 0) :=
  ⟨⟨⟨rfl, rfl⟩, rfl⟩, ⟨⟨rfl, rfl⟩, rfl, rfl, rfl, rfl⟩, ⟨rfl, rfl⟩, rfl, rfl, by decide⟩
/-- R30 case 2: a START at HIGH takes in no water; the short fill goes on to HEAT. -/
theorem test_start_high : (after (.start 14 9) { loaded with hc := { loaded.hc with level := .high } }).out.vin = false
    ∧ (after (.start 14 9) { loaded with hc := { loaded.hc with level := .high } }).cs.ctx.stage = .heat := by
  decide +kernel
theorem wit_PauseStopsStage :
    Decodes (.pause 14 9) heating heating
      ∧ (heating.rp.configured = true ∧ inCycle heating = true ∧ heating.cs.ctx.owner = some 14
        ∧ inDryPhase heating = false ∧ heating.hc.service = none) := ⟨⟨rfl, rfl⟩, by decide⟩

def reserveHeld (s : State) : State :=
  { paused s with
    cs := { (paused s).cs with ctx := { (paused s).cs.ctx with pauses := ⟨true, true, true⟩ } }
    sa := { s.sa with view := [⟨40, 0, true, false, none, none, some true⟩] } }

theorem wit_ResumeClearsReasons :
    (Decodes (.resume 14 9) (paused heating) (paused heating)
        ∧ ((paused heating).rp.configured = true ∧ inCycle (paused heating) = true
          ∧ (paused heating).cs.ctx.owner = some 14 ∧ (paused heating).dc.door = .latched
          ∧ (paused heating).cs.state = .paused ∧ tankReserve (paused heating) = false
          ∧ (paused heating).cs.ctx.stage ≠ .hold))
      ∧ (PauseAgrees (paused heating) ∧ Steady (paused heating))
      ∧ (Decodes (.resume 14 9) (reserveHeld heating) (reserveHeld heating) ∧ PauseAgrees (reserveHeld heating)
        ∧ tankReserve (reserveHeld heating) = true ∧ (reserveHeld heating).cs.ctx.pauses.supply = true)
      ∧ (PauseAgrees heating ∧ Steady heating ∧ heating.cs.state = .running) :=
  ⟨⟨⟨rfl, rfl⟩, by decide⟩, ⟨by unfold PauseAgrees; decide, by unfold Steady; decide⟩,
    ⟨⟨rfl, rfl⟩, by unfold PauseAgrees; decide, rfl, rfl⟩, by unfold PauseAgrees; decide, by unfold Steady; decide, rfl⟩
theorem wit_AbortWindsDown :
    Decodes (.abort 21 9) heating heating
      ∧ (inCycle heating = true ∧ heating.hc.service = none ∧ heating.cs.drainHeld = false ∧ heating.su.regen = none)
      ∧ (withRegen (regenRec .postCycle .held .stopped) heating).su.regen = some (regenRec .postCycle .held .stopped)
      ∧ ((inState .aborting heating).cs.state = .aborting ∧ (inState .aborting heating).cs.finalDrain ≠ .ended)
      ∧ (inState .recovery ready).cs.state = .recovery ∧ ready.cs.state = .empty
      ∧ ({ ready with su := { ready.su with regenerating := true } } : State).su.regenerating = true
      ∧ ((service 1 false).hc.service.isSome ∧ (service 1 false).cs.state = .service
        ∧ (service 1 false).cs.ctx.serviceReturn = .empty) := ⟨⟨rfl, rfl⟩, by decide⟩

def amended (s : State) : State :=
  { s with cs := { s.cs with amendments := [⟨2, .hold, 240, some .onTime, none, 31⟩, ⟨2, .level, 8, none, some 1, 33⟩]
                             groups := [⟨1, .opened, 0⟩], groupCounter := 2 } }

theorem wit_AmendWritesSet :
    Decodes (.amend 14 9 2 1 300) (amended heating) (amended heating)
      ∧ ((amended heating).rp.configured = true ∧ inCycle (amended heating) = true
        ∧ (amended heating).cs.ctx.owner = some 14 ∧ amendFieldOf 1 = some .hold
        ∧ (AmendField.hold = .dose → 300 ≤ 2) ∧ (amended heating).cs.list[2]? = some dry
        ∧ (amended heating).cs.ctx.phase < 2 ∧ (amended heating).cs.amendments.length < 8) := ⟨⟨rfl, rfl⟩, by decide⟩
theorem wit_AmendmentGroups :
    (Decodes (.holdAmendments 14 9) heating heating ∧ heating.rp.configured = true ∧ inCycle heating = true
        ∧ heating.cs.ctx.owner = some 14 ∧ heating.cs.amendments.length ≤ 8 ∧ openGroup heating = none)
      ∧ Decodes (.releaseAmendments 14 9) (amended heating) (amended heating)
      ∧ openGroup (amended heating) = some ⟨1, .opened, 0⟩ :=
  ⟨⟨⟨rfl, rfl⟩, by decide⟩, ⟨rfl, rfl⟩, rfl⟩

/-- Amendments at ENTRY: ungrouped ones taken and void, and a group in each of its states. -/
theorem wit_AmendmentGroups_entry :
    heating.cs.ctx.owner = some 14 ∧ listenOnly heating = false ∧ heating.cs.groups = []
      ∧ heating.li.completions.length < 4
      ∧ (∀ x ∈ [GroupState.opened, .releasedOnTime, .releasedLate],
        let s := { heating with cs := { heating.cs with
          groups := [⟨1, x, 5⟩], amendments := [⟨1, .hold, 240, none, some 1, 33⟩, ⟨2, .hold, 200, none, some 1, 34⟩] } };
        s.cs.groups = [⟨1, x, 5⟩] ∧ (∀ e ∈ s.cs.amendments, e.group = some 1) ∧ (∀ e ∈ s.cs.amendments, 1 ≤ e.target)
          ∧ ∃ e ∈ s.cs.amendments, e.target < 2) := by decide
/-- R12's counter: after 255 comes 1, and a number that an entry carries is passed over. -/
theorem test_group_counter :
    (after (.holdAmendments 14 9) { heating with cs := { heating.cs with groupCounter := 255 } }).cs.groupCounter = 1
      ∧ (after (.holdAmendments 14 9)
        { heating with cs := { heating.cs with
          groupCounter := 4, amendments := [⟨2, .hold, 9, none, some 5, 1⟩] } }).cs.groupCounter = 6 := by decide +kernel
theorem wit_ReceivedFramesJudged :
    frameOf (.orderAccepted wfFrame) = some wfFrame ∧ canReceive ready = true
      ∧ canReceive (sends .answer ready) = false := by decide
theorem wit_NoticesWriteTheirParts :
    canReceive (drying .vent) = true ∧ 30 ≠ (drying .vent).li.own
      ∧ (drying .vent).sa.view.any (·.station == 30) = true ∧ (drying .vent).sa.view.length < 24
      ∧ [1, 2, 3, 4].length ≠ 2 ∧ [1, 2, 3, 4].length ≠ 3 := by decide

/-- Station 40 has a tank reserve; the line brings a frame. -/
def reserved (s : State) : State :=
  { s with
    sa := { s.sa with view := [⟨40, 0, true, false, none, none, some true⟩] }, li := { s.li with line := .busy } }

/-- A tank notice in FILL, in REGEN and in HEAT, and the end of the reserve of station 40 there. -/
theorem wit_NoticesWriteTheirParts_reserve :
    (∀ s ∈ [filling, withRegen (regenRec .inCycle .flush .flowing) (inStage 0 .regen), heating,
        reserved (reserveHeld filling), reserved (withRegen (regenRec .postCycle .held .stopped) (inStage 0 .regen)),
        reserved (reserveHeld (withRegen (regenRec .postCycle .held .stopped) (inStage 0 .regen))),
        reserved (reserveHeld (withRegen (regenRec .inCycle .flush .stopped) (inStage 0 .regen)))],
      canReceive s = true ∧ 40 ≠ s.li.own ∧ s.sa.view.length < 24 ∧ inCycle s = true
        ∧ (s.cs.drainHeld = false ∧ s.cs.fillHeld = false ∧ dryingLive s = false ∧ s.hc.level ≠ .high)
        ∧ (∀ e ∈ s.sa.view, e.station ≠ 40 → e.tank ≠ some true))
      ∧ filling.cs.ctx.stage = .fill ∧ heating.cs.ctx.stage = .heat
      ∧ (withRegen (regenRec .inCycle .flush .flowing) (inStage 0 .regen)).cs.ctx.stage = .regen := by decide
/-- R18, R20: the reserve pauses a fill, and its end lets it run on. -/
theorem test_reserve_pauses : (after (.tankNotice 40 63 [3, 1]) filling).cs.state = .paused
    ∧ (after (.tankNotice 40 63 [3, 1]) filling).out.vin = false
    ∧ (after (.tankNotice 40 63 [3, 0]) (after (.tankNotice 40 63 [3, 1]) filling)).out.vin = true := by decide +kernel

/-- R69, R77, R72: the end of the reserve begins a HELD regeneration while ORDER and USER DOOR still stand; its write
over, it is stopped with its valves closed, and RESUME lets the water flow. -/
theorem test_held_begins_in_pause :
    (let s := reserved (reserveHeld (withRegen (regenRec .postCycle .held .stopped) (inStage 0 .regen)));
      let t := after (.tankNotice 40 63 [3, 0]) s;
      let u := after .recordWriteComplete t;
      t.su.regen.map (fun r => (r.seq, r.phase)) = some (.brine, .writeWait) ∧ t.cs.state = .paused
        ∧ u.su.regen.map (fun r => (r.seq, r.phase)) = some (.brine, .stopped) ∧ u.out.vbrine = false
        ∧ (after (.resume 14 9) u).out.vbrine = true) := by decide +kernel

def shedding : State := { heating with sa := { heating.sa with shed := some ⟨2, 800, 40⟩ } }

theorem wit_ShedsCapTheAllotment :
    shedding.li.sending = none ∧ shedding.li.line ≠ .held ∧ 2 ≠ shedding.li.own ∧ isOurs shedding 63 = true
      ∧ isOurs shedding 12 = true ∧ isOurs shedding 64 = true ∧ shedding.sa.shed = some ⟨2, 800, 40⟩
      ∧ shedding.sa.shed.isSome := by decide

/-- `ready` with its own base load's figures settled, and a CLAIM of 1200 in the slot that view overflow forbids. -/
def claiming (overflow : Nat) : State :=
  { ready with
    sa := { ready.sa with announced := 300, served := 300, allotted := 300, overflow := overflow }
    li := { ready.li with slot := some ⟨true, 1200⟩ } }

theorem wit_SendAttemptChooses :
    let s := claiming 8
    (s.li.line = .idle ∧ s.li.sending = none
        ∧ s.li.slot.any (fun f => f.claim && !(decide (f.figure ≤ claimCeiling s) && mayClaim s)) = true)
      ∧ requestsOf (reactWork (reactCycle (beginFrame (testClaim s)))) = s.sa.requests
      ∧ requestsOf (reactWork (reactCycle (settlePass (beginFrame (testClaim s))))) = s.sa.requests
      ∧ (allotment s = s.sa.allotted ∧ s.sa.reask = false)
      ∧ s.li.follower = .nothing ∧ SupplyGrounded s := by
  refine ⟨by decide +kernel, by decide +kernel, by decide +kernel, by decide +kernel, rfl, by decide, by decide, ?_⟩
  exact ⟨fun f hf => by cases hf; decide, nofun⟩
/-- R112, R114: a tick's notice below A calls for no claim walk. -/
theorem wit_SendAttemptChooses_unasked :
    (let s := { claiming 0 with li := { (claiming 0).li with slot := some ⟨false, 300⟩ } };
      let s := { s with sa := { s.sa with announced := 320, allotted := 320, requests := requestsOf s } };
      loweringFigure s = some 300 ∧ walkAsked s = false ∧ requestsOf s = s.sa.requests ∧ s.li.sending ≠ some .supply
        ∧ (supplyRound s).li.slot = some ⟨false, 300⟩) := by decide +kernel
theorem wit_SendAttemptChooses_test :
    (1200 ≤ claimCeiling (claiming 0) ∧ mayClaim (claiming 0) = true) ∧ mayClaim (claiming 8) = false
      ∧ (claiming 8).li.sending ≠ some .supply ∧ (sends .supply (claiming 8)).li.sending = some .supply := by decide
/-- R110, R113: a walk that claims, one that cannot and withdraws, and one that announces a fall. -/
theorem wit_SendAttemptChooses_round :
    (let s := { driven with sa := { driven.sa with announced := 300, allotted := 1 } };
      s.li.sending ≠ some .supply ∧ listenOnly s = false ∧ loweringFigure s = none ∧ walkAsked s = true
        ∧ (supplyRound s).li.slot.map (·.claim) = some true)
      ∧ (let s := { driven with sa := { driven.sa with announced := 300, allotted := 1, overflow := 8 } };
        walkAsked s = true ∧ (supplyRound s).li.slot = none ∧ (supplyRound s).sa.deferral = some 0)
      ∧ (let s := { ready with sa := { ready.sa with announced := 1162 } };
        walkAsked s = true ∧ (supplyRound s).li.slot = some ⟨false, 300⟩) := by decide +kernel
/-- R113 case 2: an unsent lowering notice below the grants is withdrawn, and the new grants are announced. -/
theorem wit_SendAttemptChooses_yield :
    (let s := { driven with li := { driven.li with slot := some ⟨false, 400⟩ } };
      let s := { s with sa := { s.sa with announced := 1400, allotted := 1400, requests := requestsOf s } };
      s.li.sending ≠ some .supply ∧ listenOnly s = false ∧ walkAsked s = false
        ∧ walk s.rp.cfg (min 400 (allotment s)) (requestsOf s) ≠ walk s.rp.cfg (allotment s) (requestsOf s)
        ∧ (supplyRound s).li.slot = some ⟨false, 1137⟩) := by decide +kernel
/-- R113: an unsent notice behind one on the line gives way to the grants that the one on the line has room for. -/
theorem wit_SendAttemptChooses_behind :
    (let s := { sends .supply driven with
        li := { (sends .supply driven).li with slot := some ⟨false, 1137⟩, follower := .frame ⟨false, 400⟩ } };
      let s := { s with sa := { s.sa with announced := 1400 } };
      s.li.sending = some .supply ∧ listenOnly s = false
        ∧ walk s.rp.cfg (min 400 (min 1137 (allotment s))) (requestsOf s)
          ≠ walk s.rp.cfg (min 1137 (allotment s)) (requestsOf s)
        ∧ (supplyRound s).li.follower = .frame ⟨false, 1137⟩) := by decide +kernel
/-- A completion that ends on the line in a cycle. -/
theorem wit_OwnFrameOutcomes_cycle :
    let s := { sends .completion heating with
      li := { (sends .completion heating).li with completions := [⟨14, 9, .phaseInserted, 0, noSense, [1]⟩] } }
    s.li.sending = some .completion ∧ s.li.completions = [⟨14, 9, .phaseInserted, 0, noSense, [1]⟩] ∧ cycleOn s = true
      ∧ Steady s ∧ s.cs.state ≠ .aborting := by
  refine ⟨rfl, rfl, by decide, by unfold Steady; decide, by decide⟩
theorem wit_OwnFrameOutcomes :
    (sends .supply ready).li.sending = some .supply
      ∧ ({ sends .supply ready with li := { (sends .supply ready).li with slot := some ⟨false, 300⟩ } } : State).li.slot
        = some ⟨false, 300⟩
      ∧ ({ sends .answer ready with li := { (sends .answer ready).li with answers := [⟨14, 9, .good, noSense, [], false⟩] } }
          : State).li.answers = ⟨14, 9, .good, noSense, [], false⟩ :: []
      ∧ ({ sends .completion ready with
            li := { (sends .completion ready).li with completions := [⟨14, 9, .cycleEnd, 1, noSense, []⟩] } } : State).li.completions
        = ⟨14, 9, .cycleEnd, 1, noSense, []⟩ :: []
      ∧ cycleOn ready = false
      ∧ (∀ x ∈ [Follower.nothing, .frame ⟨true, 1200⟩, .withdrawal],
        ({ sends .supply ready with li := { (sends .supply ready).li with slot := some ⟨true, 1162⟩, follower := x } }
          : State).li.slot = some ⟨true, 1162⟩) := by decide
/-- R109, R118: under station conflict a heater waits for the outcome of a lowering notice on the line; a line reset
condition, which leaves the allotment at the floor, leaves it DEFERRED. -/
theorem test_reset_defers_waiting :
    (let s := { sends .supply driven with
        li := { (sends .supply driven).li with slot := some ⟨false, 300⟩, conflict := 5 } };
      let s := { s with sa := { s.sa with announced := 1400, allotted := 300, requests := requestsOf s,
                                          statuses := { s.sa.statuses with heater := .waiting }, claimOwed := true } };
      allotment s = 300 ∧ (after .lineResetCondition s).sa.statuses.heater = .deferred
        ∧ (after .lineResetCondition s).sa.claimOwed = false) := by decide +kernel
/-- A claim in the slot, and a claim walk that waits for a frame on the line, at a line reset condition. -/
theorem wit_LineConditionsTaken_waiting :
    (claimFigure (claiming 0)).isSome ∧ (claiming 0).li.line ≠ .held
      ∧ (claiming 0).li.answers.any (·.reset) = false
      ∧ ({ claiming 0 with sa := { (claiming 0).sa with claimOwed := true } } : State).sa.claimOwed = true := by decide
theorem wit_LineConditionsTaken :
    ready.li.line ≠ .held ∧ ready.li.answers.any (·.reset) = false ∧ ready.li.sending = none
      ∧ ({ ready with li := { ready.li with line := .held } } : State).li.line = .held
      ∧ ({ ready with li := { ready.li with answers := [⟨14, 9, .good, noSense, [], true⟩] } }
          : State).li.answers.any (·.reset) = true := by decide
theorem wit_SupplyCountsFall :
    ({ ready with sa := { ready.sa with deferral := some 39 } } : State).sa.deferral.isSome ∧ ready.sa.deferral = none
      ∧ (claiming 0).li.slot.any (·.claim) = true ∧ ready.li.slot.any (·.claim) = false ∧ listenOnly ready = false
      ∧ ready.li.sending ≠ some .supply ∧ (sends .supply ready).li.sending = some .supply := by decide

def softening : State :=
  { filling with
    hc := { filling.hc with pulses := 900, fillState := .soft, softFrom := 812 }
    su := { filling.su with sample := none, hin := some 310, plan := some ⟨812, 3388, 15000, 268⟩, gate := .opened } }

theorem wit_FlowPulseCounts :
    (fillValveOpen ready = false ∧ flowingStep ready = none)
      ∧ (fillValveOpen filling = true ∧ (filling.hc.pulses + 1) * filling.rp.cfg.meterK / 64 < filling.hc.fillTarget)
      ∧ (fillValveOpen softening = true ∧ softening.su.plan = some ⟨812, 3388, 15000, 268⟩
        ∧ softening.hc.fillState = .soft) := by decide
theorem wit_FlowPulseCounts_regeneration :
    let s := withRegen (regenRec .inCycle .brine .flowing) (inStage 0 .regen)
    (s.su.regen = some (regenRec .inCycle .brine .flowing) ∧ (flowingStep s).isSome
        ∧ (s.hc.pulses + 1) * s.rp.cfg.meterK / 64 < stepVolume s.rp.cfg .brine) ∧ Steady s :=
  ⟨by decide, by unfold Steady; decide⟩
/-- Section 3.6's plan with the gate open: `n` pulses on BYPASS. -/
def blending (n : Nat) : State :=
  { softening with hc := { softening.hc with pulses := n, fillState := .bypass } }

theorem wit_FlowPulseCounts_switch :
    (∀ n ∈ [810, 811, 900],
      let s := blending n
      fillValveOpen s = true ∧ (s.cs.drainHeld = false ∧ s.cs.fillHeld = false ∧ dryingLive s = false)
        ∧ s.hc.level ≠ .high ∧ tankReserve s = false ∧ s.su.plan = some ⟨812, 3388, 15000, 268⟩
        ∧ (s.hc.pulses + 1) * s.rp.cfg.meterK / 64 < s.hc.fillTarget ∧ s.hc.fillState = .bypass ∧ s.su.gate = .opened
        ∧ s.hc.switched = false)
      ∧ (let s := { softening with hc := { softening.hc with switched := true } };
        s.hc.fillState = .soft ∧ fillValveOpen s = true ∧ s.hc.switched = true ∧ s.hc.level ≠ .high) := by decide
/-- Section 3.6: the pulse that brings the bypass volume to Vb, 812 mL, switches the route, and none before it. -/
theorem test_switch : (after (.flowPulse 720) (blending 811)).hc.route = .soft
    ∧ (after (.flowPulse 720) (blending 810)).hc.route = .bypass := by decide +kernel
/-- The last pulse of a fill: at a level below NORMAL, in TOPUP, and at NORMAL with each dose. -/
def lastPulse (x : FillState) (g : Level) : State :=
  { softening with
    hc := { softening.hc with pulses := 4199, softDone := 0, fillState := x, level := g } }

theorem wit_FlowPulseCounts_end :
    (∀ s ∈ [lastPulse .bypass .low, lastPulse .topup .low, lastPulse .soft .normal, lastPulse .bypass .normal],
      fillValveOpen s = true ∧ s.hc.fillTarget ≤ (s.hc.pulses + 1) * s.rp.cfg.meterK / 64 ∧ s.hc.level ≠ .high
        ∧ (s.cs.drainHeld = false ∧ s.cs.fillHeld = false ∧ dryingLive s = false)
        ∧ currentRecord s = some rinse ∧ s.hc.planAsked = true ∧ s.su.sample = none)
      ∧ rinse.dose = .noDose ∧ cutLow (lastPulse .soft .normal) .detergent = false := by decide
/-- Section 3.6: the fill of 4200 mL whose bed softened 3388 of it at Hin 310 has Heff 60; chapter 5 doses it 222 dose
units in 89 strokes at soil class 2. -/
theorem test_fill_end :
    let s := lastPulse .soft .normal
    let s := { s with cs := { s.cs with list := [mainwash, mainwash], ctx := { s.cs.ctx with soilClass := 2 } } }
    (after (.flowPulse 720) s).cs.ctx.fill = ⟨4200, 4200, 812, 3388, 0, 310, 60⟩
      ∧ (after (.flowPulse 720) s).du.job.map (fun j => (j.dose, j.wanted)) = some (222, 89) := by decide +kernel
theorem wit_FlowPulseCounts_step :
    ∀ q ∈ [SeqState.brine, .displace, .flush], ∀ p ∈ [Placement.inCycle, .postCycle, .standalone, .recovery],
      let s0 := withRegen (regenRec p q .flowing) (if p = .recovery then inState .recovery ready
        else if p = .standalone then ready else inStage 0 .regen)
      let s := { s0 with hc := { s0.hc with pulses := 2999 } }
      s.su.regen = some (regenRec p q .flowing) ∧ flowingStep s = some q
        ∧ (s.cs.drainHeld = false ∧ s.cs.fillHeld = false ∧ dryingLive s = false ∧ s.cs.ctx.stage ≠ .fill)
        ∧ stepVolume s.rp.cfg q ≤ (s.hc.pulses + 1) * s.rp.cfg.meterK / 64
        ∧ (p = .postCycle → inCycle s = true) ∧ (p = .recovery → s.cs.state = .recovery)
        ∧ (p = .standalone → cycleOn s = false) ∧ listenOnly s = false ∧ s.rp.report.length < 15 := by decide
theorem wit_FillTimersFault :
    fillValveOpen ready = false ∧ fillValveOpen filling = true ∧ filling.cs.drainHeld = false := by decide
theorem wit_SamplePlansTheFill :
    (fillValveOpen filling = true ∧ filling.su.sample = some ⟨[718, 721, 722, 719, 720, 721, 720, 719], 0⟩
        ∧ filling.su.gate = .shut ∧ filling.hc.level ≠ .high)
      ∧ (⟨[718], 0⟩ : Sample).readings.length < 8 := by decide
theorem wit_LevelReadingTaken :
    (filling.hc.owner = .fill ∧ fillOpen filling.hc.fillState = true ∧ Steady filling)
      ∧ ready.hc.owner ≠ .fill ∧ (draining .cut ready).hc.drainOn = true := ⟨⟨rfl, rfl, by unfold Steady; decide⟩, by decide⟩
/-- A TOPUP, running and in a pause. -/
theorem wit_LevelReadingTaken_topup :
    ∀ s ∈ [lastPulse .topup .low, paused (lastPulse .topup .low)],
      s.hc.owner = .fill ∧ s.hc.fillState = .topup ∧ fillOpen s.hc.fillState = true ∧ s.cs.ctx.stage = .fill
        ∧ (s.cs.drainHeld = false ∧ s.cs.fillHeld = false ∧ dryingLive s = false ∧ s.hc.level ≠ .high)
        ∧ (currentRecord s).isSome = true ∧ (s.cs.state = .paused → s.cs.ctx.pauses.order = true)
        ∧ (s.cs.state = .paused ∨ Machine.moving s = true) := by decide

theorem wit_CirculationPeriodDrives :
    (driven.rp.configured = true ∧ currentRecord driven = some rinse ∧ Machine.moving driven = true
        ∧ driven.cs.ctx.stage = .heat ∧ levelUp driven = true ∧ driven.su.regen = none
        ∧ driven.hc.buffer = rinse.level ∧ driven.hc.drive ≤ rinse.level ∧ 1 ≤ rinse.level
        ∧ loweringFigure driven = none
        ∧ driven.rp.cfg.baseDraw + driven.rp.cfg.drainDraw + circDraw driven.rp.cfg rinse.level ≤ allotment driven)
      ∧ SupplySafe driven ∧ Steady driven :=
  ⟨by decide, ⟨⟨by decide, by decide, ⟨nofun, nofun⟩⟩, by decide⟩, by unfold Steady; decide⟩

def diverting (w : Option DivPos) : State :=
  { heating with hc := { heating.hc with divWanted := w, pattern := some .alternate, divPos := .upper } }

theorem wit_DiverterMoves :
    Steady (diverting (some .lower)) ∧ (diverting (some .lower)).hc.service = none
      ∧ (diverting (some .lower)).hc.divWanted.isSome
      ∧ (Machine.moving (diverting none) = true ∧ (diverting none).hc.pattern = some .alternate
        ∧ (diverting none).hc.divBlocked = false ∧ 1 ≤ (diverting none).hc.drive) :=
  ⟨by unfold Steady; decide, by decide⟩
theorem wit_HoldSensesThenCuts :
    Steady holding ∧ (Machine.moving holding = true ∧ holding.cs.ctx.stage = .hold ∧ holding.cs.holdStarted = true
        ∧ holding.rp.configured = true ∧ holding.hc.service = none ∧ 1 ≤ holding.hc.drive ∧ 240 ≤ holding.hc.circTime)
      ∧ ¬(Machine.moving heating = true ∧ heating.cs.ctx.stage = .hold ∧ heating.cs.holdStarted = true) :=
  ⟨by unfold Steady; decide, by decide, by decide⟩
theorem wit_DrainsEnd :
    (let s := draining .cut (paused (inStage 0 .drain));
      s.hc.drainOn = true ∧ s.hc.drainEmpty = true ∧ s.hc.drainFor = .cut ∧ inCycle s = true
        ∧ s.cs.ctx.pauses.order = true ∧ dryingLive s = false)
      ∧ (let s := draining .final { inStage 0 .drain with
            cs := { (inStage 0 .drain).cs with state := .aborting, finalDrain := .running } };
        s.hc.drainFor = .final ∧ s.cs.state = .aborting ∧ s.cs.doorMoving = false ∧ s.cs.finalDrain = .running)
      ∧ (let s := draining .recovery (inState .recovery ready);
        s.hc.drainFor = .recovery ∧ s.cs.state = .recovery ∧ s.su.bed ≠ .salted) := by decide

/-- R66, R175: the RECOVERY drain of a SALTED bed ends. -/
theorem wit_DrainsEnd_flush :
    let s := draining .recovery (inState .recovery { ready with su := { ready.su with bed := .salted } })
    s.hc.drainOn = true ∧ s.hc.drainEmpty = true ∧ s.hc.drainFor = .recovery ∧ s.cs.state = .recovery
      ∧ s.su.bed = .salted ∧ s.hc.leakLatch = false ∧ tankReserve s = false ∧ s.rp.configured = true
      ∧ s.su.regen = none ∧ s.rp.inFlight = none
      ∧ (after .drainAfterRunEnd s).su.regen.map (·.seq) = some .flush := by decide +kernel

def slowDrain (who : DrainFor) (s : State) : State :=
  { s with hc := { s.hc with drainOn := true, drainFor := who } }

theorem wit_DrainsEnd_limit :
    (let s := slowDrain .cut (inStage 0 .drain);
      s.hc.drainOn = true ∧ s.hc.drainEverEmpty = false ∧ s.hc.drainLingering = false ∧ s.rp.configured = true
        ∧ s.hc.drainFor = .cut ∧ cycleOn s = true)
      ∧ (let s := slowDrain .recovery (inState .recovery ready);
        s.hc.drainFor = .recovery ∧ s.cs.state = .recovery) := by decide
/-- The DRAIN of phase 0, its after-run over: the list, the latched soil class, the want, and a tank reserve or none. -/
def drained (l : List PhaseRecord) (soil : Nat) (want reserve : Bool) : State :=
  let s := draining .cut (inStage 0 .drain)
  { s with
    cs := { s.cs with list := l, ctx := { s.cs.ctx with soilClass := soil, regenWanted := want } }
    hc := { s.hc with level := .empty }
    sa := { s.sa with view := if reserve then [⟨40, 0, true, false, none, none, some true⟩] else [] } }

theorem wit_DrainEndEntersNextPhase :
    (∀ s ∈ [drained [mainwash, rinse] 1 true false, drained [mainwash, rinse] 1 false false,
        drained [mainwash, dry] 1 false false, drained [rinse, dry] 2 false false, drained [rinse] 1 true true,
        drained [mainwash, rinse] 1 true true, drained [rinse, dry] 2 false true,
        drained [rinse] 1 true false, drained [rinse] 1 false false],
      s.hc.drainOn = true ∧ s.hc.drainEmpty = true ∧ s.hc.drainFor = .cut ∧ Machine.moving s = true
        ∧ (s.cs.drainHeld = false ∧ s.cs.fillHeld = false ∧ dryingLive s = false ∧ s.cs.ctx.stage ≠ .fill)
        ∧ s.hc.level ≠ .high ∧ (currentRecord s).isSome ∧ s.cs.amendments = [] ∧ s.cs.groups = []
        ∧ s.su.gate = .shut ∧ s.su.regen = none ∧ s.cs.ctx.regenDone = false ∧ s.rp.report.length < 15
        ∧ s.cs.ctx.owner = some 14 ∧ listenOnly s = false ∧ s.rp.configured = true)
      ∧ (mainwash.regen = true ∧ mainwash.kind ≠ .rinse ∧ rinse.kind = .rinse ∧ rinse.soil = true ∧ rinse.ext = true
        ∧ rinse.regen = false ∧ dry.kind = .dry ∧ rinse.kind ≠ .dry ∧ Configuration.standard.defaultCondense ≠ 0)
      ∧ (∀ l ∈ [[rinse], [mainwash, rinse], [rinse, dry]],
        tankReserve (drained l 1 true true) = true ∧ tankReserve (drained l 1 true false) = false) := by
  decide
theorem wit_LeakLatched :
    (heating.hc.leakLatch = false ∧ heating.rp.configured = true ∧ inCycle heating = true
        ∧ heating.cs.state ≠ .service ∧ (service 4 false).hc.leakLatch = false
        ∧ (service 4 false).cs.state = .service ∧ (service 4 false).cs.ctx.serviceReturn = .empty)
      ∧ (withRegen (regenRec .standalone .brine .flowing) ready).su.regen = some (regenRec .standalone .brine .flowing)
      ∧ SeqState.brine ≠ .held ∧ Steady (withRegen (regenRec .standalone .brine .flowing) ready)
      ∧ ({ heating with hc := { heating.hc with leakLatch := true } } : State).hc.leakLatch = true :=
  ⟨by decide, rfl, by decide, by unfold Steady; decide, rfl⟩
theorem wit_StepLimitCuts :
    ∀ p ∈ [Placement.inCycle, .postCycle, .standalone, .recovery],
      let s := withRegen (regenRec p .displace .flowing) (if p = .recovery then inState .recovery ready
        else if p = .standalone then ready else inStage 0 .regen)
      s.su.regen = some (regenRec p .displace .flowing) ∧ stepCounts (regenRec p .displace .flowing) = true
        ∧ (s.cs.drainHeld = false ∧ s.cs.fillHeld = false ∧ dryingLive s = false ∧ s.cs.ctx.stage ≠ .fill)
        ∧ listenOnly s = false
        ∧ (p = .inCycle → inCycle s = true) ∧ (p = .standalone → cycleOn s = false)
        ∧ (p = .recovery → s.cs.state = .recovery) := by decide
theorem wit_ReservoirFilledRefills :
    (Decodes (.reservoirFilled 14 9 0) ready ready ∧ Steady ready
        ∧ (ready.rp.configured = true ∧ ready.du.job = none ∧ ready.du.svc = none))
      ∧ (Decodes (.reservoirFilled 14 9 0) (dosing { job with phase := .resting }) (dosing { job with phase := .resting })
        ∧ Steady (dosing { job with phase := .resting })
        ∧ (dosing { job with phase := .resting }).du.job = some { job with phase := .resting }) :=
  ⟨⟨⟨rfl, rfl⟩, by unfold Steady; decide, by decide⟩, ⟨rfl, rfl⟩, by unfold Steady; decide, rfl⟩
/-- R96: a job and a service stroke of one reservoir (log entry 73): the refill waits for both. -/
theorem wit_ReservoirFilledRefills_both :
    (let s := onTank .detergent (fun x => { x with held := true, account := 1 }) (dosing { job with phase := .waiting });
      let s := s.onDu fun d => { d with svc := some ⟨.detergent, true, 0⟩ };
      s.du.job = some { job with phase := .waiting } ∧ (endServiceStroke .detergent false s).du.det.account = 1
        ∧ (endJob .aborted s).du.det.account = 1
        ∧ (endJob .aborted (endServiceStroke .detergent false s)).du.det.account = 60000) := by decide +kernel
theorem wit_ForceRegenerationPlaces :
    (Decodes (.forceRegeneration 14 9) ready ready ∧ ready.rp.configured = true ∧ ready.cs.state ≠ .recovery
        ∧ ready.cs.state ≠ .service ∧ ready.hc.leakLatch = false ∧ ready.su.regen = none ∧ ready.cs.state = .empty
        ∧ tankReserve ready = false)
      ∧ tankReserve (reserveHeld ready) = true ∧ loaded.cs.state = .loaded
      ∧ (withRegen (regenRec .standalone .brine .flowing) ready).su.regen.isSome :=
  ⟨⟨⟨rfl, rfl⟩, by decide⟩, by decide⟩
theorem wit_ServiceExerciseRuns :
    (Decodes (.serviceTest 14 9) ready ready ∧ ready.cs.state = .empty ∧ ready.su.regenerating = false
        ∧ ready.hc.leakLatch = false ∧ ready.dc.door = .latched ∧ ready.hc.level = .empty ∧ ready.hc.drainOn = false
        ∧ ready.su.regen = none)
      ∧ ((service 1 false).hc.service = some ⟨14, 9, 1, false, 8, 0, 0, false, 0, 0, 0⟩
        ∧ hasItem 0 1 = false ∧ (service 5 true).hc.service = some ⟨14, 9, 5, true, 8, 0, 0, false, 0, 0, 0⟩
        ∧ (service 8 true).hc.service = some ⟨14, 9, 8, true, 8, 0, 0, false, 0, 0, 0⟩
        ∧ (service 8 true).cs.ctx.serviceReturn = .empty ∧ listenOnly (service 8 true) = false) :=
  ⟨⟨⟨rfl, rfl⟩, by decide⟩, by decide⟩
def servicing (v : Service) (w : Option DivPos) (u : Option ServiceStroke) : State :=
  { service 1 false with
    hc := { (service 1 false).hc with service := some v, divWanted := w }, du := { ready.du with svc := u } }

/-- Items 3, 4 and 7, waiting or not, with the moves of item 4, and item 8 with each pump's stroke. -/
theorem wit_ServiceExerciseRuns_items :
    (∀ v ∈ [⟨14, 9, 3, false, 8, 0, 0, false, 0, 0, 0⟩, ⟨14, 9, 4, false, 0, 0, 0, true, 0, 0, 0⟩,
        ⟨14, 9, 4, false, 0, 0, 0, false, 0, 0, 0⟩, ⟨14, 9, 4, false, 0, 0, 2, false, 0, 0, 0⟩,
        ⟨14, 9, 7, false, 8, 0, 0, false, 0, 0, 0⟩, ⟨14, 9, 7, true, 0, 120, 0, false, 0, 0, 0⟩],
      let s := servicing v (some .both) none
      s.hc.service = some v ∧ s.cs.state = .service ∧ s.du.svc = none ∧ s.cs.ctx.serviceReturn = .empty
        ∧ s.hc.divWanted = some .both)
      ∧ (∀ res ∈ [Reservoir.detergent, .rinseAid],
        let s := servicing ⟨14, 9, 8, false, 0, 0, 0, false, 127, 0, 0⟩ none (some ⟨res, true, 3⟩)
        s.du.svc = some ⟨res, true, 3⟩ ∧ s.du.job = none ∧ (tankOf s res).held = false ∧ s.cs.state = .service
          ∧ s.cs.ctx.serviceReturn = .empty ∧ listenOnly s = false
          ∧ ({ s with hc := { s.hc with service := none } } : State).hc.service = none) := by decide
/-- R44: from BOTH the ring leads to LOWER; the third move confirmed ends item 4. -/
theorem test_service_moves :
    (after (.diverterMoveConfirmed .both)
      (servicing ⟨14, 9, 4, false, 0, 0, 0, false, 7, 0, 0⟩ (some .both) none)).hc.divWanted = some .lower
      ∧ (after (.diverterMoveConfirmed .both)
        (servicing ⟨14, 9, 4, false, 0, 0, 2, false, 7, 0, 0⟩ (some .both) none)).hc.service.map (·.ran) = some 15 := by
  decide +kernel
/-- R44: the 2 s of item 5 count while the pump runs, not while its level waits in the buffer. -/
theorem test_service_pump :
    let s := servicing ⟨14, 9, 5, false, 3, 0, 0, false, 15, 0, 0⟩ none none
    (tickWater { s with hc := { s.hc with buffer := 1 } }).hc.service.map (·.timer) = some 3
      ∧ (tickWater { s with hc := { s.hc with buffer := 1, drive := 1 } }).hc.service.map (·.timer) = some 4 := by
  decide
/-- R96: a refill held for a stroke of item 8 that is not made any more takes effect. -/
theorem test_timeout_refill :
    (after .serviceGrantTimeout
      { service 8 true with
        du := { (service 8 true).du with
          svc := some ⟨.detergent, false, 0⟩, det := { ready.du.det with account := 7, held := true } } }).du.det.account
      = 60000 := by decide +kernel
theorem wit_StrokesAndSwitchesKeepAccount :
    (Steady (dosing job) ∧ (dosing job).du.job = some job ∧ (dosing job).du.svc = none
        ∧ (tankOf (dosing job) job.res).held = false)
      ∧ (job.phase = .stroking ∧ job.aborting = false ∧ job.priming = 0 ∧ job.confirmed + 1 < job.wanted
        ∧ job.unconfirmed < 2)
      ∧ (∀ j ∈ [{ job with priming := 1 }, { job with confirmed := 115 }, { job with unconfirmed := 2 },
            { job with phase := .resting }], (dosing j).du.job = some j ∧ j.aborting = false)
      ∧ ((dosing job).cs.ctx.pauses.any = false ∧ tankReserve (dosing job) = false ∧ cycleOn (dosing job) = true)
      ∧ ((paused (dosing job)).cs.ctx.pauses.order = true ∧ inCycle (paused (dosing job)) = true) :=
  ⟨⟨by unfold Steady; decide, by decide⟩, by decide, by decide, by decide, by decide⟩
/-- R95, R90, R92: a stroke of an aborting job, and each case of a job on its grant. -/
theorem wit_StrokesAndSwitchesKeepAccount_grant :
    (let j := { job with aborting := true };
      (dosing j).du.job = some j ∧ j.phase = .stroking ∧ j.aborting = true ∧ (dosing j).su.regen = none)
      ∧ ((dosing job).sa.grants.det = false ∧ job.res = .detergent)
      ∧ (let s := dosing { job with phase := .waiting };
        ({ s with sa := { s.sa with grants := { Loads.none with det := true } } } : State).sa.grants.det = true
          ∧ (tankOf s .detergent).known = true ∧ (tankOf s .detergent).low = false)
      ∧ (let s := { ready with du := { ready.du with det := ⟨9, true, false, true, true, false⟩ } };
        (tankOf s .detergent).low = true ∧ (tankOf s .detergent).account < strokeOf s.rp.cfg .detergent)
      ∧ (let s := { dosing job with sa := { heating.sa with grants := { heating.sa.grants with det := true } } };
        (∀ j ∈ s.du.job, j.phase = .stroking → pumpGranted j.res s = true) ∧ s.du.job = some job) := by
  refine ⟨by decide, by decide, by decide, by decide, ?_, rfl⟩
  intro j hj _
  cases hj
  rfl
/-- A stroke of the service exercise in progress keeps the job's own stroke waiting. -/
theorem wit_StrokesAndSwitchesKeepAccount_one :
    (let s := dosing { job with phase := .waiting };
      let s := { s with du := { s.du with svc := some ⟨.detergent, true, 3⟩ }
                        sa := { s.sa with grants := { Loads.none with det := true } } };
      s.du.job = some { job with phase := .waiting } ∧ ¬(∀ v ∈ s.du.svc, v.stroking = false)
        ∧ (serveDose s).du.job = some { job with phase := .waiting })
      ∧ (jobStroking (voiding (dosing job)) = true ∧ serviceStroking (voiding (dosing job)) = false) := by decide
/-- R95 case 1: the last stroke of an aborting job ends it ABORTED, with no underdose flagged. -/
theorem test_aborting_stroke :
    let s := dosing { job with aborting := true, unconfirmed := 2 }
    (after .strokeTimeout s).du.job = none ∧ (after .strokeTimeout s).rp.draft.underdose = false
      ∧ (after .strokeTimeout s).cs.ctx.firstCondition = none := by decide +kernel
theorem wit_TemperatureGuards :
    (Machine.moving heating = true ∧ heating.cs.ctx.stage = .heat ∧ heating.tc.overtemp = false
        ∧ heating.tc.faulted = false ∧ cycleOn heating = true ∧ heating.tc.sensorReported = false
        ∧ heating.tc.target ≤ 400 ∧ (999 : Int) < 1000 ∧ (-1 : Int) < 0)
      ∧ Steady heating ∧ ({ heating with tc := { heating.tc with overtemp := true } } : State).tc.overtemp = true
      ∧ ({ heating with tc := { heating.tc with faulted := true } } : State).tc.faulted = true :=
  ⟨by decide, by unfold Steady; decide, rfl, rfl⟩
theorem wit_HeatLimitsEndHeat :
    (Machine.moving heating = true ∧ heating.cs.ctx.stage = .heat ∧ 0 < heating.tc.driven ∧ driven.tc.faulted = false
        ∧ ({ driven with tc := { driven.tc with driven := 0 } } : State).tc.driven = 0)
      ∧ Steady heating ∧ Steady { driven with tc := { driven.tc with driven := 0 } } :=
  ⟨by decide, by unfold Steady; decide, by unfold Steady; decide⟩
theorem wit_DoorReadingTaken :
    (heating.dc.door = .latched ∧ inCycle heating = true ∧ inDryPhase heating = false ∧ dryingLive heating = false)
      ∧ ((service 1 false).dc.door = .latched ∧ (service 1 false).cs.state = .service
        ∧ (service 1 false).hc.service.isSome ∧ (service 1 false).cs.ctx.serviceReturn = .empty)
      ∧ ((drying .vent).dc.record = some (dryRec .vent) ∧ (dryRec .vent).stage ≠ .ended
        ∧ (drying .vent).cs.state = .running
        ∧ (drying .vent).cs.ctx.phase + 1 = (drying .vent).cs.list.length ∧ (dryRec .vent).stage = .vent
        ∧ (drying .vent).cs.drainHeld = false ∧ (drying .vent).cs.fillHeld = false) := by decide
/-- R146: a CLOSING that finds LATCHED and HOME read already is over: as it begins, and at the travel limit. -/
theorem wit_closings_read :
    (let s := { drying .vent with pins := { (drying .vent).pins with home := true } };
      s.dc.door = .latched ∧ s.pins.home = true ∧ (drying .vent).rp.cfg.closeAfterVent = true
        ∧ (after .ventTimerEnd s).dc.record.map (·.outcome) = some .latched)
      ∧ (let s := withMove .close .retracting (drying .closing);
        s.dc.record = some (dryRec .closing) ∧ armMoves s = true ∧ (dryRec .closing).closingTo = .ventClosed
          ∧ (after (.armTravelLimit true) s).cs.state = .running
          ∧ (after (.armTravelLimit false) { s with pins := { s.pins with home := false } }).cs.state = .aborting) := by
  decide +kernel
/-- The CLOSING of a wind-down that has outlived its cycle, in the next one (log entry 39). -/
def outlived : State :=
  { heating with
    dc := { heating.dc with
      arm := .retracting, move := .close, record := some { dryRec .closing with closingTo := .windDown } } }

theorem wit_DoorReadingTaken_windDown :
    (outlived.dc.record = some { dryRec .closing with closingTo := .windDown } ∧ outlived.dc.move = .close
        ∧ outlived.pins.home = false ∧ outlived.cs.drainHeld = false ∧ outlived.cs.fillHeld = false
        ∧ inCycle outlived = true ∧ inDryPhase outlived = false)
      ∧ (after (.doorReadingChange false false) outlived).cs.ctx.phase = outlived.cs.ctx.phase
      ∧ fanWanted outlived = false ∧ fanWanted (drying .closing) = true := by decide +kernel
theorem wit_DryingStagesEnd :
    ((drying .condense).dc.record = some (dryRec .condense) ∧ (drying .condense).cs.state = .running
        ∧ (drying .condense).cs.drainHeld = false ∧ (drying .condense).cs.fillHeld = false
        ∧ (dryRec .condense).vent ≠ 0)
      ∧ ((drying .vent).dc.record = some (dryRec .vent) ∧ (drying .vent).rp.cfg.closeAfterVent = true)
      ∧ (let s := { drying .vent with rp := { ready.rp with cfg := { Configuration.standard with closeAfterVent := false } } };
        s.rp.cfg.closeAfterVent = false ∧ s.cs.ctx.phase + 1 = s.cs.list.length) := by decide
/-- The vent time's end in OPENING, the arm at HOME or not and the door AJAR or not, in VENT-CLOSED and in CLOSING. -/
theorem wit_DryingStagesEnd_vent :
    (∀ a ∈ [ArmState.home, .extending, .stopped], ∀ c ∈ [true, false], ∀ d ∈ [Door.latched, .ajar],
      ∀ g ∈ [DryStage.opening, .ventClosed],
        let s := withMove .extend a (drying g)
        let s := { s with dc := { s.dc with door := d }
                          rp := { s.rp with cfg := { Configuration.standard with closeAfterVent := c } } }
        s.dc.record = some (dryRec g) ∧ s.cs.state = .running ∧ s.cs.drainHeld = false ∧ s.cs.fillHeld = false
          ∧ s.rp.cfg.closeAfterVent = c ∧ s.dc.arm = a ∧ s.cs.ctx.phase + 1 = s.cs.list.length)
      ∧ (let s := withMove .close .retracting (drying .closing);
        s.dc.record = some (dryRec .closing) ∧ s.dc.move = .close ∧ (dryRec .closing).closingTo ≠ .windDown) := by decide
/-- R147: in VENT-CLOSED a hand has left the door AJAR. -/
theorem test_vent_end_ajar :
    let s := drying .ventClosed
    (after .ventTimerEnd { s with dc := { s.dc with door := .ajar } }).dc.leftAjar = true
      ∧ (after .ventTimerEnd s).dc.record.map (·.outcome) = some .latched := by decide +kernel
theorem wit_ArmEvents :
    (let s := withMove .release .home (drying .opening);
      s.dc.move = .release ∧ ({ s with sa := { s.sa with grants := { Loads.none with actuator := true } } }
        : State).sa.grants.actuator = true ∧ s.sa.grants.actuator = false)
      ∧ (let s := withMove .extend .extending (drying .opening);
        s.dc.record = some (dryRec .opening) ∧ s.dc.permitted = true ∧ motionPermitted s = true ∧ s.cs.drainHeld = false
          ∧ s.cs.fillHeld = false ∧ cycleOn s = true ∧ (dryRec .opening).condense ≠ 0)
      ∧ (let s := withMove .park .retracting ready;
        s.dc.move = .park ∧ armMoves s = true ∧ s.su.regen = none ∧ s.du.job = none)
      ∧ (let s := withMove .close .retracting (drying .closing);
        s.dc.record = some (dryRec .closing) ∧ (dryRec .closing).closingTo = .ventClosed ∧ s.dc.door = .latched
          ∧ 0 < s.rp.cfg.settleTime ∧ inCycle s = true) := by decide
theorem wit_ArmEvents_parking : Steady (withMove .park .retracting ready) := by unfold Steady; decide
/-- R136: a retraction that stops with the HOME switch closed leaves the arm at HOME. -/
theorem test_halt_at_home : (after (.doorReadingChange false false)
    { withMove .close .retracting (drying .closing) with
      pins := { Pins.atReset with home := true } }).dc.arm = .home := by decide +kernel
/-- The DRY phase in OPENING with the allotment for the arm, its latch release running. -/
def releasing : State :=
  { withMove .release .home (drying .opening) with
    sa := { (drying .opening).sa with announced := 300, grants := { Loads.none with actuator := true } } }

theorem wit_ArmEvents_release :
    (releasing.dc.record = some (dryRec .opening) ∧ releasing.dc.move = .release
        ∧ releasing.sa.grants.actuator = true ∧ releasing.cs.ctx.stage = .drying ∧ releasing.dc.permitted = true
        ∧ motionPermitted releasing = true ∧ releasing.cs.drainHeld = false ∧ releasing.cs.fillHeld = false
        ∧ releasing.su.regen = none ∧ releasing.hc.service = none ∧ releasing.rp.configured = true
        ∧ loweringFigure releasing = none
        ∧ releasing.rp.cfg.baseDraw + releasing.rp.cfg.drainDraw + releasing.rp.cfg.actuatorDraw ≤ allotment releasing)
      ∧ SupplySafe releasing ∧ (after .lrelDelayEnd releasing).out.armx = true :=
  ⟨by decide, ⟨⟨by decide, by decide, ⟨nofun, nofun⟩⟩, by decide⟩, by decide +kernel⟩
theorem wit_ArmEvents_closings :
    (let r := { dryRec .closing with closingTo := .finish };
      let s := { withMove .close .retracting (drying .closing) with
        dc := { (withMove .close .retracting (drying .closing)).dc with record := some r } };
      s.dc.record = some r ∧ r.closingTo = .finish ∧ s.cs.state = .running ∧ inDryPhase s = true
        ∧ s.cs.ctx.phase + 1 = s.cs.list.length)
      ∧ (drained [rinse] 1 false false).cs.ctx.regenWanted = false
      ∧ (∀ d ∈ [Door.latched, .opened],
        let r := { dryRec .closing with closingTo := .windDown };
        let s := inState .aborting { withMove .close .retracting (drying .closing) with
          dc := { (withMove .close .retracting (drying .closing)).dc with record := some r, door := d } };
        s.dc.record = some r ∧ s.dc.move = .close ∧ s.cs.state = .aborting
          ∧ ({ s with cs := { s.cs with finalDrain := .ended } } : State).cs.finalDrain = .ended) := by decide
theorem wit_ArmEvents_guarded :
    let s := voiding { withMove .extend .extending (drying .opening) with out := { Outputs.off with armx := true } }
    ArmGuarded s ∧ s.out.armx = true ∧ s.dc.arm = .extending := by
  refine ⟨?_, rfl, rfl⟩
  unfold ArmGuarded
  decide
theorem wit_MotionDecidesTheDoor :
    (let s := drying .vent;
      s.cs.drainHeld = false ∧ s.cs.fillHeld = false ∧ s.dc.record = some (dryRec .vent) ∧ s.dc.permitted = true
        ∧ motionValid 30 s = true
        ∧ motionPermitted { s with sa := { s.sa with view := [⟨30, 0, true, false, none, some ⟨4, 0, 0, false⟩, none⟩] } }
          = false)
      ∧ (let s := drying .ventClosed;
        s.dc.record = some (dryRec .ventClosed) ∧ s.cs.state = .running ∧ s.dc.permitted = true ∧ motionPermitted s = true
          ∧ s.dc.door = .latched ∧ s.dc.arm = .home ∧ (dryRec .ventClosed).eligible = true
          ∧ (dryRec .ventClosed).reopens < s.rp.cfg.reopenLimit ∧ (dryRec .ventClosed).stall = false
          ∧ (dryRec .ventClosed).ventTimer < 4 * (dryRec .ventClosed).vent ∧ s.cs.ctx.pauses.any = false
          ∧ tankReserve s = false) := by decide
theorem wit_RecordWritesEnd :
    let w : WriteJob := ⟨PersistentRecord.bad, false, true⟩
    let s := inFlight w (withRegen (regenRec .inCycle .brine .writeWait) (inStage 0 .regen))
    (s.rp.inFlight = some w ∧ s.su.regen = some (regenRec .inCycle .brine .writeWait) ∧ w.brine = true
        ∧ ready.rp.inFlight = none ∧ s.hc.level ≠ .high) ∧ Steady s := ⟨by decide, by unfold Steady; decide⟩
/-- R174: a pending write begins at the completion, with the flag last asked for. -/
theorem wit_RecordWritesEnd_pending :
    let w : WriteJob := ⟨PersistentRecord.bad, false, false⟩
    let s := inFlight w { ready with rp := { ready.rp with pendingWrite := some ⟨some false, false, false⟩ } }
    s.rp.inFlight = some w ∧ s.rp.pendingWrite = some ⟨some false, false, false⟩
      ∧ (after .recordWriteComplete s).rp.inFlight.map (·.figures) = some (figuresNow false s) := by decide +kernel
/-- The write of the gate of section 3.6's plan, completed with the bypass volume below Vb, at it, and above it. -/
theorem wit_RecordWritesEnd_gate :
    ∀ n ∈ [811, 812, 900],
      let w : WriteJob := ⟨PersistentRecord.bad, true, false⟩
      let s := inFlight w (blending n)
      let s := { s with su := { s.su with gate := .requested } }
      s.rp.inFlight = some w ∧ s.su.gate = .requested ∧ fillValveOpen s = true ∧ s.hc.fillState = .bypass
        ∧ s.hc.switched = false ∧ s.su.plan = some ⟨812, 3388, 15000, 268⟩ ∧ tankReserve s = false
        ∧ (s.cs.drainHeld = false ∧ s.cs.fillHeld = false ∧ dryingLive s = false ∧ s.hc.level ≠ .high)
        ∧ s.hc.pulses * s.rp.cfg.meterK / 64 < s.hc.fillTarget := by decide

end Sys2Proof.Tests
end

