-- ==== Sys2Proof/Proofs/Orders.lean ====
section
/-! SUPPORT. How an order that OH decodes is executed: only the receive queue differs between the state that OH decodes
in and the state that takes the order, and an order that passes its tests is taken. -/

namespace Sys2Proof.Machine

variable {s s0 : State} {c : Instr} {src tag : Nat}

/-- R161: decoding an order changes the receive queue alone, so whatever does not look at the line reads the same. -/
theorem Decodes.same {α : Type} (h : Decodes c s s0) (f : State → α) (hf : ∀ s g, f (s.onLi g) = f s) :
    f s0 = f s := by
  obtain ⟨-, hr⟩ := h
  unfold removeOrder at hr
  split at hr
  · rw [Option.some.inj hr]
  · split at hr
    · rw [← Option.some.inj hr, hf]
    · cases hr

theorem Decodes.cs (h : Decodes c s s0) : s0.cs = s.cs := h.same State.cs fun _ _ => rfl

theorem takeOrder_of_decodes (h : Decodes c s s0) (body : State → State) :
    takeOrder c body s = .next (body s0) := by
  obtain ⟨hready, hr⟩ := h
  simp [takeOrder, hready, hr]

theorem answerBy_of_passes {refusal : State → Option Sense} {taken : State → State} (hc : s.rp.configured = true)
    (h : refusal s = none) : answerBy src tag refusal taken s = taken s := by
  simp [answerBy, hc, h]

theorem exec_pause (s : State) : exec (.pause src tag) s = execPause src tag s := rfl

theorem exec_amend (target fld value : Nat) (s : State) :
    exec (.amend src tag target fld value) s = execAmend src tag target fld value s := rfl

end Sys2Proof.Machine
end

