-- ==== Sys2Proof/Proofs/Amend.lean ====
section
/-! SUPPORT. AMEND (R11, R12): its tests in their order, and the amendment set that an order which passes them leaves. -/

namespace Sys2Proof.Machine

variable {s : State} {src tag target fld value : Nat} {f : AmendField}

theorem doseOf_isSome : (doseOf value).isSome = decide (value ≤ 2) := by
  match value with
  | 0 | 1 | 2 => rfl
  | n + 3 => simp [doseOf]

theorem goodValue_iff : goodValue f value = true ↔ (f = .dose → value ≤ 2) := by
  cases f <;> simp [goodValue, doseOf_isSome]

/-- R12: before the cut no stage from DRAIN on has begun. -/
theorem arrivalMark_eq (s : State) :
    arrivalMark s =
      if s.cs.ctx.stage == .drain || s.cs.ctx.stage == .regen || s.cs.ctx.stage == .exit then .late else .onTime := by
  unfold arrivalMark beforeCut
  cases s.cs.ctx.stage <;> rfl

/-- R11's tests in its order, the last of them said over the entries of the set. -/
theorem amendTests_eq (src target fld value : Nat) (s : State) :
    amendTests src target fld value s =
      if inCycle s = false then some ⟨.notRunning, 255⟩
      else if s.cs.ctx.owner ≠ some src then some ⟨.notOwner, 255⟩
      else if ¬((amendFieldOf fld).isSome ∧ (amendFieldOf fld = some .dose → value ≤ 2)) then some ⟨.badField, 255⟩
      else if s.cs.list.length ≤ target then some ⟨.badIndex, 255⟩
      else if target ≤ s.cs.ctx.phase then some ⟨.phasePassed, target⟩
      else if 8 ≤ s.cs.amendments.length ∧ ∀ e ∈ s.cs.amendments, e.target = target → amendFieldOf fld ≠ some e.field then
        some ⟨.setFull, 255⟩
      else none := by
  cases hf : amendFieldOf fld with
  | none => simp [amendTests, hf, fromOwner, plain]
  | some f =>
    have hgood : goodValue f value = decide (f = .dose → value ≤ 2) := by
      rw [Bool.eq_iff_iff, goodValue_iff, decide_eq_true_iff]
    have hfull : hasEntry target f s = false ↔ ∀ e ∈ s.cs.amendments, e.target = target → f ≠ e.field := by
      simp [hasEntry, eq_comm (a := f)]
    simp [amendTests, hf, hgood, hfull, fromOwner, plain]

theorem amendTests_eq_none {r : PhaseRecord} (hin : inCycle s = true) (how : s.cs.ctx.owner = some src)
    (hf : amendFieldOf fld = some f) (hv : f = .dose → value ≤ 2) (hr : s.cs.list[target]? = some r)
    (hp : s.cs.ctx.phase < target)
    (hroom : s.cs.amendments.length < 8 ∨ ∃ e ∈ s.cs.amendments, e.target = target ∧ e.field = f) :
    amendTests src target fld value s = none := by
  have hlen : target < s.cs.list.length := (List.getElem?_eq_some_iff.mp hr).1
  have hset : ¬(8 ≤ s.cs.amendments.length ∧ ∀ e ∈ s.cs.amendments, e.target = target → ¬f = e.field) := by
    rintro ⟨hfull, hnone⟩
    obtain hlt | ⟨e, he, ht, hef⟩ := hroom
    · omega
    · exact hnone e he ht hef.symm
  rw [amendTests_eq]
  simpa [hin, how, hf, hset, hlen.not_ge, hp.not_ge] using hv

theorem storeAmend_eq {r : PhaseRecord} (hr : s.cs.list[target]? = some r) :
    storeAmend tag target f value s =
      { s with
        cs := { s.cs with
          amendments := if hasEntry target f s then
              replaceEntry target f (clampAmend r.kind f value) tag (arrivalMark s) s.cs.amendments
            else s.cs.amendments ++
              [newEntry target f (clampAmend r.kind f value) tag (arrivalMark s) (openGroup s)] } } := by
  simp [storeAmend, hr, State.onCs]

/-- R11, R12: an AMEND that OH decodes and that passes its tests answers GOOD and stores its entry, and does nothing
else. -/
theorem exec_amend_of_passes {s0 : State} (hd : Decodes (.amend src tag target fld value) s s0)
    (hc : s.rp.configured = true) (ht : amendTests src target fld value s = none) (hf : amendFieldOf fld = some f) :
    exec (.amend src tag target fld value) s = .next (answerGood src tag [] (storeAmend tag target f value s0)) := by
  have hc0 : s0.rp.configured = true := (hd.same (·.rp.configured) fun _ _ => rfl).trans hc
  have ht0 : amendTests src target fld value s0 = none := (hd.same _ fun _ _ => rfl).trans ht
  rw [exec_amend, execAmend, takeOrder_of_decodes hd, answerBy_of_passes hc0 ht0]
  simp [takeAmend, hf]

/-- Settles O30: the tests pass (`amendTests_eq_none`), the order stores one entry (`exec_amend_of_passes`), and its mark
is the statement's (`arrivalMark_eq`). -/
theorem amendWritesSet : Obligations.AmendWritesSet := by
  unfold Obligations.AmendWritesSet
  refine ⟨?_, fun src target fld value s => amendTests_eq src target fld value s⟩
  intro src tag target fld value f r s s0 hd hc hin how hf hv hr hp hroom v late mark hit opened set
  have htests := amendTests_eq_none hin how hf hv hr hp hroom
  have hr0 : s0.cs.list[target]? = some r := by rw [hd.cs, hr]
  have hmark : arrivalMark s0 = mark := (hd.same arrivalMark fun _ _ => rfl).trans (arrivalMark_eq s)
  have hentry : newEntry target f v tag mark (openGroup s) =
      ⟨target, f, v, if opened.isSome then none else some mark, opened, tag⟩ := by
    simp [newEntry, opened, openGroup]
  have hset : (if hasEntry target f s0 then replaceEntry target f v tag (arrivalMark s0) s0.cs.amendments
      else s0.cs.amendments ++ [newEntry target f v tag (arrivalMark s0) (openGroup s0)]) = set := by
    rw [hmark, hd.same (hasEntry target f) fun _ _ => rfl, hd.same openGroup fun _ _ => rfl, hd.cs, hentry]
    rfl
  rw [exec_amend_of_passes hd hc htests hf, storeAmend_eq hr0, hset]
  rfl

end Sys2Proof.Machine
end

