-- ==== Sys2Proof/Proofs/Core.lean ====
section
/-! SUPPORT. The operations of finish that leave CS, the service exercise, the driven circulation level and the grants
alone: one lemma per operation, and what a round of SA makes of the grants. -/

namespace Sys2Proof.Machine

/-- What a pause must hold still, and the grants that follow from it. -/
structure Core where
  cs : CsState
  service : Option Service
  drive : Nat
  grants : Loads

def State.core (s : State) : Core := ⟨s.cs, s.hc.service, s.hc.drive, s.sa.grants⟩

variable (s : State)

/-! ## The updates -/

@[simp] theorem onLi_core (f : LiState → LiState) : (s.onLi f).core = s.core := rfl
@[simp] theorem onSu_core (f : SuState → SuState) : (s.onSu f).core = s.core := rfl
@[simp] theorem onDu_core (f : DuState → DuState) : (s.onDu f).core = s.core := rfl
@[simp] theorem onDc_core (f : DcState → DcState) : (s.onDc f).core = s.core := rfl
@[simp] theorem onRp_core (f : RpState → RpState) : (s.onRp f).core = s.core := rfl
@[simp] theorem onDraft_core (f : PhaseDraft → PhaseDraft) : (onDraft s f).core = s.core := rfl

@[simp] theorem onHc_core (f : HcState → HcState)
    (h : ((f s.hc).service, (f s.hc).drive) = (s.hc.service, s.hc.drive)) : (s.onHc f).core = s.core := by
  simp only [Prod.mk.injEq] at h
  simp [State.core, h]

@[simp] theorem onSa_core (f : SaState → SaState) (h : (f s.sa).grants = s.sa.grants) : (s.onSa f).core = s.core := by
  simp [State.core, h]

@[simp] theorem ite_core (c : Prop) [Decidable c] (a b : State) :
    (if c then a else b).core = if c then a.core else b.core := apply_ite State.core c a b

/-! ## Record writes -/

@[simp] theorem beginWrite_core : (beginWrite s).core = s.core := by
  unfold beginWrite
  split <;> simp

@[simp] theorem requestWrite_core (a : Option Bool) (b c : Bool) : (requestWrite a b c s).core = s.core := by
  simp [requestWrite]

/-! ## Water and regeneration -/

@[simp] theorem releaseInlet_core : (releaseInlet s).core = s.core := rfl
@[simp] theorem forgetGateWrites_core : (forgetGateWrites s).core = s.core := rfl
@[simp] theorem onRegen_core (g : RegenRecord → RegenRecord) : (onRegen g s).core = s.core := rfl
@[simp] theorem grantFill_core : (grantFill s).core = s.core := rfl
@[simp] theorem grantStep_core (r : RegenRecord) : (grantStep r s).core = s.core := rfl

@[simp] theorem formHardness_core : (formHardness s).core = s.core := by
  unfold formHardness
  split <;> rfl

@[simp] theorem grantInlet_core : (grantInlet s).core = s.core := by
  unfold grantInlet
  split
  · split <;> simp
  · rfl

@[simp] theorem routeSwitch_core : (routeSwitch s).core = s.core := by
  unfold routeSwitch
  split
  · extract_lets bypassed
    split
    · split <;> rfl
    · rfl
  · rfl

/-! ## Dosing -/

@[simp] theorem onJob_core (g : DoseJob → DoseJob) : (onJob g s).core = s.core := rfl

@[simp] theorem onTank_core (r : Reservoir) (g : Tank → Tank) : (onTank r g s).core = s.core := by
  cases r <;> rfl

@[simp] theorem takeHeld_core (r : Reservoir) : (takeHeld r s).core = s.core := by
  simp [takeHeld, refill]

@[simp] theorem beginStroke_core (j : DoseJob) : (beginStroke j s).core = s.core := by
  simp [beginStroke]

@[simp] theorem syncDose_core : (syncDose s).core = s.core := onJob_core s _

/-! ## The door arm -/

@[simp] theorem onRecord_core (g : DryRecord → DryRecord) : (onRecord g s).core = s.core := rfl
@[simp] theorem stillArm_core : (stillArm s).core = s.core := rfl
@[simp] theorem startOpening_core : (startOpening s).core = s.core := rfl
@[simp] theorem startClosing_core (d : ClosingTo) (e : Bool) : (startClosing d e s).core = s.core := rfl
@[simp] theorem enterVentClosed_core (e : Bool) : (enterVentClosed e s).core = s.core := rfl
@[simp] theorem motionGain_core : (motionGain s).core = s.core := rfl
@[simp] theorem resumeOpening_core : (resumeOpening s).core = s.core := rfl

@[simp] theorem parkArm_core : (parkArm s).core = s.core := by
  simp [parkArm]

@[simp] theorem reopen_core : (reopen s).core = s.core := by
  simp [reopen]

@[simp] theorem serveArm_core : (serveArm s).core = s.core := by
  unfold serveArm
  split <;> simp

@[simp] theorem motionLoss_core : (motionLoss s).core = s.core := by
  unfold motionLoss
  dsimp only
  split
  · split <;> simp
  · rfl

@[simp] theorem evaluateMotion_core : (evaluateMotion s).core = s.core := by
  simp [evaluateMotion]

/-- R147, R148: outside RUNNING the end of drying reports to a CS that stays where it is. -/
theorem endDrying_core (o : DoorOutcome) (h : s.cs.state ≠ .running) : (endDrying o s).core = s.core := by
  unfold endDrying
  dsimp only
  rw [if_neg (by simpa [onRecord, stillArm] using h)]
  rfl

/-! ## The supply -/

@[simp] theorem placeSupply_core (x : SupplyFrame) : (placeSupply x s).core = s.core := by
  simp [placeSupply]

@[simp] theorem emptySlot_core : (emptySlot s).core = s.core := by
  simp [emptySlot]

@[simp] theorem removeClaim_core : (removeClaim s).core = s.core := by
  simp [removeClaim]

@[simp] theorem tellStatuses_core (t : Statuses) : (tellStatuses t s).core = s.core := rfl

@[simp] theorem yieldNotice_core (r : Loads) : (yieldNotice r s).core = s.core := by
  simp [yieldNotice]

@[simp] theorem claimWalk_core : (claimWalk s).core = s.core := by
  unfold claimWalk
  dsimp only
  simp

@[simp] theorem lowerNotice_core (again : Bool) : (lowerNotice again s).core = s.core := by
  simp [lowerNotice]

theorem grantLoads_core (r : Loads) :
    (grantLoads r s).core = { s.core with grants := walk s.rp.cfg (servingLimit s) r } := rfl

/-- R107: a round of SA changes the grants alone, to those of a walk of the requests. -/
theorem supplyRound_core :
    ∃ limit, (supplyRound s).core = { s.core with grants := walk s.rp.cfg limit (requestsOf s) } := by
  have hcfg : (yieldNotice (requestsOf s) s).rp.cfg = s.rp.cfg := kept_cfg (yieldNotice_kept _ _)
  refine ⟨servingLimit (yieldNotice (requestsOf s) s), ?_⟩
  simp [supplyRound, grantLoads_core, hcfg]

end Sys2Proof.Machine
end

