-- ==== Sys2Proof/Proofs/Idles.lean ====
section
/-! SUPPORT. A cycle that a pause stops: what each reaction of finish may still do to CS, the service exercise and the
driven circulation level (`Idles`), and that finish as a whole leaves the cycle at its place (R20). -/

namespace Sys2Proof.Machine

/-- From `s` to `t` the cycle keeps its place: state, own pause reasons, phase, stage and list stand, the hold timer at
most starts, and no higher circulation level is driven. -/
structure Idles (s t : State) : Prop where
  state : t.cs.state = s.cs.state
  order : t.cs.ctx.pauses.order = s.cs.ctx.pauses.order
  userDoor : t.cs.ctx.pauses.userDoor = s.cs.ctx.pauses.userDoor
  phase : t.cs.ctx.phase = s.cs.ctx.phase
  stage : t.cs.ctx.stage = s.cs.ctx.stage
  list : t.cs.list = s.cs.list
  hold : (t.cs.holdStarted = s.cs.holdStarted ∧ t.cs.holdTimer = s.cs.holdTimer)
    ∨ (s.cs.holdStarted = false ∧ t.cs.holdStarted = true ∧ t.cs.holdTimer = 0)
  service : t.hc.service = s.hc.service
  drive : t.hc.drive ≤ s.hc.drive

/-- The cycle is stopped: it is PAUSED with ORDER among its reasons, and no service exercise runs. -/
structure Stopped (s : State) : Prop where
  paused : s.cs.state = .paused
  order : s.cs.ctx.pauses.order = true
  service : s.hc.service = none

variable {s t u : State}

/-! ## The relation -/

theorem Idles.of_cs (hcs : t.cs = s.cs) (hservice : t.hc.service = s.hc.service) (hdrive : t.hc.drive ≤ s.hc.drive) :
    Idles s t := by
  constructor <;> simp [hcs, hservice, hdrive]

theorem Idles.of_core (h : t.core = s.core) : Idles s t :=
  .of_cs (congrArg Core.cs h) (congrArg Core.service h) (congrArg Core.drive h).le

theorem Idles.refl (s : State) : Idles s s := .of_core rfl

theorem Idles.trans (h : Idles s t) (k : Idles t u) : Idles s u where
  state := k.state.trans h.state
  order := k.order.trans h.order
  userDoor := k.userDoor.trans h.userDoor
  phase := k.phase.trans h.phase
  stage := k.stage.trans h.stage
  list := k.list.trans h.list
  hold := by
    obtain ⟨h1, h2⟩ | ⟨h0, h1, h2⟩ := h.hold <;> obtain ⟨k1, k2⟩ | ⟨k0, k1, k2⟩ := k.hold
    · exact .inl ⟨k1.trans h1, k2.trans h2⟩
    · exact .inr ⟨h1.symm.trans k0, k1, k2⟩
    · exact .inr ⟨h0, k1.trans h1, k2.trans h2⟩
    · exact .inr ⟨h0, k1, k2⟩
  service := k.service.trans h.service
  drive := k.drive.trans h.drive

theorem Idles.holdTimer (h : Idles s t) :
    t.cs.holdTimer = if t.cs.holdStarted = s.cs.holdStarted then s.cs.holdTimer else 0 := by
  obtain ⟨h1, h2⟩ | ⟨h0, h1, h2⟩ := h.hold
  · simp [h1, h2]
  · simp [h0, h1, h2]

theorem Stopped.of_idles (hs : Stopped s) (h : Idles s t) : Stopped t :=
  ⟨h.state.trans hs.paused, h.order.trans hs.order, h.service.trans hs.service⟩

theorem Stopped.any_pauses (hs : Stopped s) : s.cs.ctx.pauses.any = true := by
  simp [PauseSet.any, hs.order]

theorem Stopped.moving_eq_false (hs : Stopped s) : moving s = false := by
  simp [moving, hs.paused]

theorem Stopped.inCycle_eq_true (hs : Stopped s) : inCycle s = true := by
  simp [inCycle, hs.paused]

theorem Stopped.serviceAt_eq_false (hs : Stopped s) (item : Nat) : serviceAt item s = false := by
  simp [serviceAt, hs.service]

/-! ## Operations that tell CS something -/

theorem idles_raiseCondition (c : Cause) (s : State) : Idles s (raiseCondition c s) := by
  unfold raiseCondition
  split
  · constructor <;> simp
  · exact .refl s

theorem idles_startHoldTimer (s : State) : Idles s (startHoldTimer s) := by
  unfold startHoldTimer
  split
  · next h =>
    simp only [Bool.and_eq_true, Bool.not_eq_true'] at h
    constructor <;> simp [h.2]
  · exact .refl s

theorem idles_reportDoseEnd (j : DoseJob) (e : DoseEnd) (s : State) : Idles s (reportDoseEnd j e s) := by
  unfold reportDoseEnd
  split
  · exact idles_raiseCondition _ s
  · exact idles_raiseCondition _ s
  · exact .refl s

theorem idles_endJob (e : DoseEnd) (s : State) : Idles s (endJob e s) := by
  unfold endJob
  split
  · extract_lets s1 s2 s3
    have h1 : Idles s s1 := .of_core (onDraft_core s _)
    have h2 : Idles s1 s2 := idles_reportDoseEnd _ e s1
    have h3 : Idles s2 s3 := .of_core (requestWrite_core s2 _ _ _)
    exact ((h1.trans (h2.trans h3)).trans (.of_core (by simp))).trans (idles_startHoldTimer _)
  · exact .refl s

theorem idles_serveDose (s : State) : Idles s (serveDose s) := by
  unfold serveDose
  split
  · split
    · split
      · exact idles_endJob _ s
      · exact .of_core (onJob_core s _)
    · split
      · split
        · exact idles_endJob _ s
        · exact .of_core (beginStroke_core s _)
      · exact .refl s
  · exact .refl s

theorem idles_startBrine (s : State) : Idles s (startBrine s) := by
  unfold startBrine
  extract_lets low credit s1 alone s2 s3
  have h1 : Idles s s1 := .of_core (onRegen_core s _)
  have h2 : Idles s1 s2 := by
    dsimp only [s2]
    split
    · exact idles_raiseCondition _ s1
    · exact .refl s1
  exact (h1.trans h2).trans (.of_core (by simp [s3]))

theorem idles_syncRegen (s : State) : Idles s (syncRegen s) := by
  unfold syncRegen
  split
  · split
    · split
      · exact .refl s
      · exact idles_startBrine s
    · exact .of_core (by simp)
  · exact .refl s

theorem idles_closeFill (s : State) : Idles s (closeFill s) := by
  unfold closeFill
  extract_lets s1 f charged fault s2 s3 s4 s5 s6 s7 s8
  have h1 : Idles s s1 := .of_core (formHardness_core s)
  have h2 : Idles s1 s2 := by constructor <;> simp [s2]
  have h4 : Idles s2 s4 := .of_core (by simp [s4, s3])
  have h5 : Idles s4 s5 := by
    dsimp only [s5]
    split
    · exact idles_raiseCondition _ _
    · exact .refl _
  have h8 : Idles s5 s8 := .of_core (by simp [s8, s7, s6])
  exact h1.trans (h2.trans (h4.trans (h5.trans (h8.trans (.of_core (onHc_core _ _ rfl))))))

/-! ## The reactions to a stopped cycle -/

theorem Stopped.takeHeldEnds_eq (hs : Stopped s) : takeHeldEnds s = s := by
  simp [takeHeldEnds, hs.moving_eq_false]

theorem Stopped.endZeroHold_eq (hs : Stopped s) : endZeroHold s = s := by
  simp [endZeroHold, hs.moving_eq_false]

theorem Stopped.endZeroCondense_eq (hs : Stopped s) : endZeroCondense s = s := by
  simp [endZeroCondense, condenseOver, hs.paused]

theorem Stopped.startFinalDrain_eq (hs : Stopped s) : startFinalDrain s = s := by
  simp [startFinalDrain, hs.paused]

theorem Stopped.endWindDown_eq (hs : Stopped s) : endWindDown s = s := by
  simp [endWindDown, hs.paused]

/-- R20, R30: a fill that ends while the cycle is stopped only has its end held. -/
theorem Stopped.idles_endFullFill (hs : Stopped s) : Idles s (endFullFill s) := by
  unfold endFullFill
  split
  · have hc : Idles s (closeFill s) := idles_closeFill s
    have hs' := hs.of_idles hc
    refine hc.trans ?_
    simp only [endFill, hs'.moving_eq_false, hs'.inCycle_eq_true]
    constructor <;> simp
  · exact .refl s

theorem Stopped.idles_syncSupply (hs : Stopped s) : Idles s (syncSupply s) := by
  have h1 : Idles s (syncHold s) := .of_core (onRegen_core s _)
  have h2 : Idles (syncHold s) (syncReason (syncHold s)) := by
    unfold syncReason
    split
    · constructor <;> simp
    · exact .refl _
  have h12 := h1.trans h2
  have hs' := hs.of_idles h12
  refine h12.trans (u := syncPause _) ?_
  simp only [syncPause, hs'.inCycle_eq_true]
  constructor <;> simp [hs'.paused, hs'.any_pauses]

theorem Stopped.idles_finishClosing (hs : Stopped s) : Idles s (finishClosing s) := by
  unfold finishClosing
  split
  · extract_lets s1
    have h1 : Idles s s1 := .of_core (onDc_core s _)
    refine h1.trans ?_
    split
    · split
      · exact .of_core (enterVentClosed_core _ _)
      · exact .of_core (endDrying_core _ _ (by simp [(hs.of_idles h1).paused]))
      · constructor <;> simp [onRecord]
    · exact .refl s1
  · exact .refl s

theorem Stopped.idles_reactCycle (hs : Stopped s) : Idles s (reactCycle s) := by
  have h1 := hs.idles_syncSupply
  have hs1 := hs.of_idles h1
  have h2 := h1.trans (.of_core (evaluateMotion_core _))
  have hs2 := hs.of_idles h2
  have h3 := (h2.trans hs2.idles_finishClosing).trans (.of_core (reopen_core _))
  unfold reactCycle
  rw [hs1.takeHeldEnds_eq, hs1.endZeroHold_eq, hs2.endZeroCondense_eq]
  exact h3.trans (hs.of_idles h3).idles_syncSupply

theorem Stopped.idles_reactWork (hs : Stopped s) : Idles s (reactWork s) := by
  have h1 := (idles_syncRegen s).trans (.of_core (grantInlet_core _))
  have hs1 := hs.of_idles h1
  have h2 := (h1.trans hs1.idles_endFullFill).trans (.of_core (routeSwitch_core _))
  have hs2 := hs.of_idles h2
  unfold reactWork
  rw [hs2.startFinalDrain_eq, hs2.endWindDown_eq]
  exact h2.trans (.of_core (by simp))

theorem idles_supplyRound (s : State) : Idles s (supplyRound s) := by
  obtain ⟨limit, h⟩ := supplyRound_core s
  exact .of_cs (congrArg Core.cs h) (congrArg Core.service h) (congrArg Core.drive h).le

theorem serveCirc_drive (s : State) : (serveCirc s).hc.drive = min s.hc.drive s.sa.grants.circ := by
  simp only [serveCirc, State.onHc_hc]
  split
  · next h => exact (min_eq_right (Nat.le_of_lt h)).symm
  · next h => exact (min_eq_left (Nat.not_lt.mp h)).symm

theorem idles_serveCirc (s : State) : Idles s (serveCirc s) := by
  have hservice : (serveCirc s).hc.service = s.hc.service := by
    simp only [serveCirc, State.onHc_hc]
    split <;> rfl
  exact .of_cs rfl hservice ((serveCirc_drive s).trans_le (min_le_left _ _))

theorem onService_core_of_none (h : s.hc.service = none) (f : Service → Service) : (onService f s).core = s.core := by
  simp [onService, State.core, h]

theorem Stopped.serveServiceStroke_core (hs : Stopped s) : (serveServiceStroke s).core = s.core := by
  unfold serveServiceStroke
  split
  · simp [hs.serviceAt_eq_false, onService_core_of_none, hs.service]
  · rfl

theorem Stopped.idles_serveService (hs : Stopped s) : Idles s (serveService s) := by
  unfold serveService
  extract_lets g
  have h1 : Idles s (onService _ s) := .of_core (onService_core_of_none hs.service fun v =>
    if v.item == 5 then { v with waiting := g.circ == 0 } else if v.item == 7 then { v with waiting := !g.fan } else v)
  exact h1.trans (.of_core (hs.of_idles h1).serveServiceStroke_core)

/-- After the grants are told, the driven level is at most the granted one. -/
theorem Stopped.idles_serveGrants (hs : Stopped s) :
    Idles s (serveGrants s) ∧ (serveGrants s).hc.drive ≤ s.sa.grants.circ := by
  have h1 := (Idles.of_core (serveArm_core (serveCirc s))).trans (idles_serveDose _)
  have hs1 := hs.of_idles ((idles_serveCirc s).trans h1)
  have h2 : Idles (serveCirc s) (serveGrants s) := h1.trans hs1.idles_serveService
  exact ⟨(idles_serveCirc s).trans h2, h2.drive.trans ((serveCirc_drive s).trans_le (min_le_right _ _))⟩

/-- R20, R33: in a stopped cycle circulation asks for nothing and is granted nothing. -/
theorem Stopped.supplyRound_circ (hs : Stopped s) : (supplyRound s).sa.grants.circ = 0 := by
  obtain ⟨limit, h⟩ := supplyRound_core s
  have hgrants : (supplyRound s).sa.grants = walk s.rp.cfg limit (requestsOf s) := congrArg Core.grants h
  have hwant : (requestsOf s).circ = 0 := by
    unfold requestsOf
    split
    · simp [circWanted, hs.moving_eq_false, hs.serviceAt_eq_false]
    · rfl
  simp [hgrants, walk, hwant, fitCirc]

theorem Stopped.idles_settlePass (hs : Stopped s) : Idles s (settlePass s) ∧ (settlePass s).hc.drive = 0 := by
  have h1 := hs.idles_reactCycle
  have h2 := h1.trans (hs.of_idles h1).idles_reactWork
  have h3 := h2.trans (idles_supplyRound _)
  obtain ⟨h4, hdrive⟩ := (hs.of_idles h3).idles_serveGrants
  rw [(hs.of_idles h2).supplyRound_circ] at hdrive
  unfold settlePass
  exact ⟨h3.trans h4, Nat.le_zero.mp hdrive⟩

theorem Stopped.idles_settleAll (hs : Stopped s) : Idles s (settleAll s) ∧ (settleAll s).hc.drive = 0 := by
  have h1 := hs.idles_settlePass.1
  obtain ⟨h2, hdrive⟩ := (hs.of_idles h1).idles_settlePass
  unfold settleAll
  exact ⟨h1.trans h2, hdrive⟩

/-! ## The outputs of a stopped cycle -/

theorem driveOutputs_core (s : State) : (driveOutputs s).core = s.core := rfl
theorem driveOutputs_hc (s : State) : (driveOutputs s).hc = s.hc := rfl
theorem driveOutputs_out (s : State) : (driveOutputs s).out = outputsOf s := rfl

theorem Stopped.drivenStage_eq_zero (hs : Stopped s) : drivenStage s = 0 := by
  simp [drivenStage, heaterInterlock, hs.moving_eq_false]

/-- R20: the outputs that a pause switches off. -/
theorem Stopped.outputsOf_off (hs : Stopped s) (hd : s.hc.drive = 0) :
    (outputsOf s).he1 = false ∧ (outputsOf s).he2 = false ∧ (outputsOf s).circ = 0
      ∧ (s.hc.owner = .fill → (outputsOf s).vin = false) := by
  have hvin : s.hc.owner = .fill → flowingStep s = none := by
    intro ho
    unfold flowingStep
    split <;> simp [ho]
  unfold outputsOf
  split
  · simp +contextual [hs.drivenStage_eq_zero, hd, hvin, fillValveOpen, hs.moving_eq_false]
  · simp [Outputs.off]

/-- R18, R20: a stopped cycle stays at its place in every event that brings nothing else about, with heater, fill inlet
and circulation off. -/
theorem Stopped.finish_stays (hs : Stopped s) :
    Idles s (finish s) ∧ (finish s).out.he1 = false ∧ (finish s).out.he2 = false ∧ (finish s).out.circ = 0
      ∧ ((finish s).hc.owner = .fill → (finish s).out.vin = false) := by
  obtain ⟨h1, hdrive⟩ := hs.idles_settleAll
  unfold finish
  generalize settleAll s = t at h1 hdrive
  have h2 := h1.trans (.of_core (onSa_core t (fun a => { a with mustAnnounce := false }) rfl))
  rw [driveOutputs_out, driveOutputs_hc]
  exact ⟨h2.trans (.of_core (driveOutputs_core _)), (hs.of_idles h2).outputsOf_off hdrive⟩

end Sys2Proof.Machine
end

