-- ==== Sys2Proof/Proofs/Pause.lean ====
section
/-! SUPPORT. PAUSE (R19, R20): its tests in their order, and the stopped cycle that a PAUSE leaves. -/

namespace Sys2Proof.Machine

variable {s s0 : State} {src tag : Nat}

theorem pauseTests_eq (src : Nat) (s : State) :
    pauseTests src s =
      if inCycle s = false then some ⟨.notRunning, 255⟩
      else if s.cs.ctx.owner ≠ some src then some ⟨.notOwner, 255⟩
      else if inDryPhase s = true then some ⟨.cfDrying, 255⟩ else none := by
  simp [pauseTests, firstFailing, fromOwner, plain]

/-- The state with the cycle PAUSED. -/
def pausedState (s : State) : State := s.onCs fun c => { c with state := .paused }

theorem syncReason_pausedState (h : inCycle s = true) : syncReason (pausedState s) = pausedState (syncReason s) := by
  have hp : inCycle (pausedState s) = true := rfl
  simp only [syncReason, h, hp, if_true]
  rfl

/-- R18, R20: the reactions begin by setting RUNNING or PAUSED from the pause set, so that they need not be told. -/
theorem syncSupply_pausedState (h : inCycle s = true) : syncSupply (pausedState s) = syncSupply s := by
  have hold : inCycle (syncHold s) = true := h
  have hreason : inCycle (syncReason (syncHold s)) = true := by
    simp only [syncReason, hold, if_true]
    exact h
  have hp : inCycle (pausedState (syncReason (syncHold s))) = true := rfl
  show syncPause (syncReason (pausedState (syncHold s))) = syncPause (syncReason (syncHold s))
  rw [syncReason_pausedState hold]
  simp only [syncPause, hreason, hp, if_true]
  rfl

theorem finish_pausedState (h : inCycle s = true) : finish (pausedState s) = finish s := by
  simp only [finish, settleAll, settlePass, reactCycle, syncSupply_pausedState h]

/-- A PAUSE that OH decodes and that passes its tests. -/
theorem exec_pause_of_passes (hd : Decodes (.pause src tag) s s0) (hc : s.rp.configured = true)
    (ht : pauseTests src s = none) :
    exec (.pause src tag) s = .next (finish (addOrderPause (answerGood src tag [] s0))) := by
  have hc0 : s0.rp.configured = true := (hd.same (·.rp.configured) fun _ _ => rfl).trans hc
  have ht0 : pauseTests src s0 = none := (hd.same _ fun _ _ => rfl).trans ht
  rw [exec_pause, execPause, takeOrder_of_decodes hd, answerBy_of_passes hc0 ht0]

/-- Settles O27: the order stops the cycle, and finish leaves a stopped cycle at its place (`Stopped.finish_stays`). -/
theorem pauseStopsStage : Obligations.PauseStopsStage := by
  unfold Obligations.PauseStopsStage
  refine ⟨?_, pauseTests_eq⟩
  intro src tag s s0 hd hc hin how hdry hsv
  have ht : pauseTests src s = none := by simp [pauseTests_eq, hin, how, hdry]
  have hsv0 : s0.hc.service = none := (hd.same (·.hc.service) fun _ _ => rfl).trans hsv
  let s1 := addOrderPause (answerGood src tag [] s0)
  have hin1 : inCycle s1 = true := (hd.same inCycle fun _ _ => rfl).trans hin
  have hs : Stopped (pausedState s1) := ⟨rfl, rfl, hsv0⟩
  obtain ⟨hplace, hhe1, hhe2, hcirc, hvin⟩ := hs.finish_stays
  have hfinish : exec (.pause src tag) s = .next (finish (pausedState s1)) := by
    rw [exec_pause_of_passes hd hc ht, finish_pausedState hin1]
  refine ⟨_, hfinish, (hs.of_idles hplace).paused, (hs.of_idles hplace).order, ?_, ?_, ?_, ?_, ?_, hhe1, hhe2, hcirc,
    hvin, finish_answers _⟩
  all_goals rw [← hd.cs]
  · exact hplace.userDoor
  · exact hplace.stage
  · exact hplace.phase
  · exact hplace.list
  · exact hplace.holdTimer

end Sys2Proof.Machine
end

