-- ==== Sys2Proof/Proofs/Queries.lean ====
section
/-! SUPPORT. READY QUERY, STATUS QUERY (R167) and SENSE (R170): OH takes them without a test, and what each reports. -/

namespace Sys2Proof.Machine

variable {s s0 : State} {src tag : Nat}

/-- R165: OH decodes an order in the state whose receive queue alone the order has left. -/
theorem Decodes.exists_receive {c : Instr} (h : Decodes c s s0) :
    ∃ queue, s0 = s.onLi fun l => { l with receive := queue } := by
  obtain ⟨-, hr⟩ := h
  unfold removeOrder at hr
  split at hr
  · exact ⟨s.li.receive, (Option.some.inj hr).symm⟩
  · split at hr
    · exact ⟨_, (Option.some.inj hr).symm⟩
    · cases hr

/-! ## READY QUERY -/

/-- READY QUERY reads nothing of the line, so it reports on the state before the order is taken from the queue. -/
theorem exec_readyQuery_of_decodes (hd : Decodes (.readyQuery src tag) s s0) :
    exec (.readyQuery src tag) s = .next (answerGood src tag (readyFields s) s0) := by
  have hfields : readyFields s0 = readyFields s := hd.same readyFields fun _ _ => rfl
  rw [← hfields]
  exact takeOrder_of_decodes hd _

theorem firstFailing_eq_none_iff {ts : List (Bool × Sense)} : firstFailing ts = none ↔ ∀ t ∈ ts, t.1 = false := by
  induction ts with
  | nil => simp [firstFailing]
  | cons t ts ih =>
    obtain ⟨fails, x⟩ := t
    cases fails <;> simp [firstFailing, ih]

/-- R10, R173: a START from the owner would be taken. -/
def startable (s : State) : Bool :=
  s.rp.configured && s.cs.state == .loaded && !s.su.regenerating && !s.hc.leakLatch && !s.tc.overtemp
    && s.dc.door == .latched && !tankReserve s

/-- The sense a READY QUERY reports, none when a START from the owner would be taken. -/
def readyRefusal (s : State) : Option Sense :=
  if s.rp.configured then startTests none s else some unconfiguredSense

/-- R10's first test, RECOVERY, fails only where its second, LOADED, fails too. -/
theorem readyRefusal_eq_none_iff (s : State) : readyRefusal s = none ↔ startable s = true := by
  cases hc : s.rp.configured with
  | false => simp [readyRefusal, startable, hc]
  | true =>
    simp only [readyRefusal, hc, if_true, startTests, firstFailing_eq_none_iff, startable]
    simp +contextual [and_assoc]

theorem readyFields_eq (s : State) :
    readyFields s = if startable s then [1, 0, 0, 255] else 0 :: ((readyRefusal s).getD noSense).bytes := by
  have hiff := readyRefusal_eq_none_iff s
  cases h : readyRefusal s with
  | none =>
    rw [if_pos (hiff.mp h), readyFields, ← readyRefusal, h]
    rfl
  | some x =>
    have hnot : ¬startable s = true := by simp [← hiff, h]
    rw [if_neg hnot, readyFields, ← readyRefusal, h]
    rfl

/-! ## STATUS QUERY -/

theorem statusFields_receive (s : State) (queue : List Frame) :
    statusFields (s.onLi fun l => { l with receive := queue }) = statusFields s := rfl

theorem exec_statusQuery_of_decodes (hd : Decodes (.statusQuery src tag) s s0) :
    exec (.statusQuery src tag) s = .next (answerGood src tag (statusFields s) s0) := by
  obtain ⟨queue, rfl⟩ := hd.exists_receive
  rw [← statusFields_receive s queue]
  exact takeOrder_of_decodes hd _

theorem pauseBits_eq (p : PauseSet) :
    p.bits = (if p.userDoor then 1 else 0) + (if p.order then 2 else 0) + (if p.supply then 4 else 0) := by
  simp [PauseSet.bits, bit]

theorem statusFlags_eq (s : State) :
    statusFlags s =
      (if s.su.regenerating then 1 else 0) + (if s.du.det.exhausted then 2 else 0)
        + (if s.du.rin.exhausted then 4 else 0) + (if s.hc.leakLatch then 8 else 0) + (if s.tc.overtemp then 16 else 0)
        + (if s.li.conflict > 0 then 32 else 0) + (if s.sa.overflow > 0 then 64 else 0) := by
  simp [statusFlags, bit]

theorem regenNum_eq (r : Option RegenRecord) :
    regenNum r = match r with
      | some x => x.seq.num
      | none => 0 := by
  cases r <;> rfl

/-- Settles O18: each query is answered in `s0` with the fields it reads in `s`; READY QUERY's first field is 1 just
when no test of R10 fails (`readyRefusal_eq_none_iff`), and STATUS QUERY's are the table's, byte by byte. -/
theorem queriesReport : Obligations.QueriesReport := by
  unfold Obligations.QueriesReport
  constructor
  · intro src tag s s0 hd
    rw [exec_readyQuery_of_decodes hd, readyFields_eq]
    rfl
  · intro src tag s s0 hd
    rw [exec_statusQuery_of_decodes hd]
    simp only [statusFields, pauseBits_eq, statusFlags_eq, regenNum_eq]
    rfl

/-! ## SENSE -/

/-- SENSE reads the sense table alone, so it reports on the state before the order is taken from the queue. -/
theorem exec_sense_of_decodes (hd : Decodes (.sense src tag) s s0) :
    exec (.sense src tag) s = .next ((answerGood src tag (senseFields src s) s0).onOh fun o =>
      { o with senseTable := o.senseTable.filter (·.station != src) }) := by
  have hfields : senseFields src s0 = senseFields src s := hd.same (senseFields src) fun _ _ => rfl
  rw [← hfields]
  exact takeOrder_of_decodes hd _

theorem senseFields_eq (src : Nat) (s : State) :
    senseFields src s = match s.oh.senseTable.find? (·.station == src) with
      | some e => [e.sense.cause.key, e.sense.cause.code, min e.sense.qual 255, e.tag]
      | none => [0, 0, 255, 0] := by
  cases h : s.oh.senseTable.find? (·.station == src) <;> simp only [senseFields, h] <;> rfl

/-- Settles O19: the caller's entry (`senseFields_eq`) is answered and leaves the table. -/
theorem senseReportsAndClears : Obligations.SenseReportsAndClears := by
  unfold Obligations.SenseReportsAndClears
  intro src tag s s0 hd
  have htable : s0.oh = s.oh := hd.same State.oh fun _ _ => rfl
  rw [exec_sense_of_decodes hd, senseFields_eq, ← htable]
  rfl

end Sys2Proof.Machine
end
